-- ==== Sys2Proof/Word.lean ====
section
/-! DEFINITION. The plain word types of the LC-24: bytes, unit numbers, page words, line addresses, wire levels. -/

namespace Sys2Proof

/-- One byte of a register, a frame or a table row. -/
abbrev Byte := BitVec 8

/-- A node's 40-bit identity; all-ones is no valid unit number (spec/00 Terms, R13, R32). -/
abbrev UnitNumber := BitVec 40

/-- A 16-bit capability word (R73). -/
abbrev PageWord := BitVec 16

/-- The line address of one node, 1..24, held as the entry's place 0..23 in the roster:
line address n is the value n - 1 (R1). The all-call 0 is never an `Addr`; where it may stand the type is
`Option Addr`, with `none` for the all-call. -/
abbrev Addr := Fin 24

/-- The line address as it is written on the line and in the tables, 1..24. -/
def Addr.number (a : Addr) : Nat := a.val + 1

/-- The entry a line address names; none for 0 and for 25 and above. -/
def Addr.ofNumber? (n : Nat) : Option Addr :=
  if h : 1 ≤ n ∧ n ≤ 24 then some ⟨n - 1, by omega⟩ else none

/-- The 24 line addresses in ascending order. -/
def Addr.all : List Addr := List.finRange 24

/-- A level of MDA: low is dominant, high is recessive (spec/00, R24). -/
inductive Level where
  | recessive
  | dominant
deriving DecidableEq, Repr

/-- A vector given by its entries. -/
def tabulate (n : Nat) {α : Type} (f : Fin n → α) : Vector α n := ⟨⟨List.ofFn f⟩, by simp⟩

end Sys2Proof
end

