-- ==== Sys2Proof/Syntax.lean ====
section
/-! DEFINITION. The commands and events of the LC-24: one constructor per row of spec/opcode_table.json. -/

namespace Sys2Proof

/-- What can reach the coordinator. A host command reads its arguments from ARG0-ARG5, the staging row or the
offer shadow when it is taken (R177, R178), so it carries none. A row that makes a LINE CHECK carries the level
MDA reads at that check (R164). -/
inductive Instr where
  /-- LINE_ENABLE (R159), command code 0x01. -/
  | lineEnable
  /-- LINE_DISABLE (R160), command code 0x02. -/
  | lineDisable
  /-- LINE_RECOVER (R168), command code 0x03. -/
  | lineRecover
  /-- CENSUS_START (R54), command code 0x10; FRESH is bit 0 of ARG0. -/
  | censusStart
  /-- CENSUS_STOP (R64), command code 0x11. -/
  | censusStop
  /-- SUBMIT (R114), command code 0x20; the request is the staging row. -/
  | submit
  /-- ABORT (R135), command code 0x21; the ticket is ARG0. -/
  | abort
  /-- RETIRE (R143), command code 0x22. -/
  | retire
  /-- RELEASE (R16), command code 0x30; the address is ARG0. -/
  | release
  /-- RENEGOTIATE (R20), command code 0x31; the address is ARG0. -/
  | renegotiate
  /-- BIND (R14), command code 0x32; the address is ARG0, the unit number ARG1-ARG5. -/
  | bind
  /-- UNBIND (R15), command code 0x33; the address is ARG0. -/
  | unbind
  /-- COMMIT_OFFER (R92), command code 0x40. -/
  | commitOffer
  /-- CLEAR (R170), command code 0x7F. -/
  | clear
  /-- BAD_COMMAND (R177): a write of COMMAND with a code that the command table does not list. -/
  | badCommand (code : Byte)
  /-- TABSEL_WRITE (R180). -/
  | tabselWrite (value : Byte)
  /-- TABIDX_WRITE (R180). -/
  | tabidxWrite (value : Byte)
  /-- TABDATA_READ (R182). -/
  | tabdataRead
  /-- TABDATA_WRITE (R183). -/
  | tabdataWrite (value : Byte)
  /-- CAUSE_WRITE (R185). -/
  | causeWrite (value : Byte)
  /-- ENABLE_WRITE (R186). -/
  | enableWrite (value : Byte)
  /-- SWEEPIVL_WRITE (R97). -/
  | sweepivlWrite (value : Byte)
  /-- MISSLIM_WRITE (R109). -/
  | misslimWrite (value : Byte)
  /-- AUTOCENSUS_WRITE (R71). -/
  | autocensusWrite (value : Byte)
  /-- REGISTER_WRITE (R184): a write cycle to the register at `address`. -/
  | registerWrite (address : BitVec 5) (value : Byte)
  /-- HARDWARE_RESET (R173): RESET# is asserted, or power comes on. -/
  | hardwareReset
  /-- SWEEP_TICK (R98): the tick timer reaches 0. -/
  | sweepTick
  /-- AUTO_CENSUS_EXPIRY (R72): the auto-census timer reaches 0. -/
  | autoCensusExpiry
  /-- HOLD_OFF_END (R3): the hold-off of the entry at line address `address` reaches 0. -/
  | holdOffEnd (address : Nat)
  /-- LINE_GRANT (R50); `mda` is the level read at the LINE CHECK that opens the exchange. -/
  | lineGrant (mda : Level)
  /-- CLEAR_DISMISS (R171); `mda` is the level read at the DISMISS's LINE CHECK. -/
  | clearDismiss (mda : Level)
  /-- LINE_CHECK_CLEARED (R164): MDA reads recessive during the clear-wait. -/
  | lineCheckCleared
  /-- CLEAR_WAIT_EXPIRY (R164): MDA read dominant at all 32 samples of the clear-wait. -/
  | clearWaitExpiry
  /-- CONTENTION (R39): MDA reads dominant where the coordinator's own frame is recessive. -/
  | contention
  /-- CLOCK_FAULT (R165): MCK reads back another level than the one driven. -/
  | clockFault
  /-- COMMAND_SENT (R44): the command frame reaches its tail without contention. -/
  | commandSent
  /-- REPLY_WINDOW_EXPIRY (R38): 24 slots pass with no response lead-in. -/
  | replyWindowExpiry
  /-- RESPONSE_FRAME (R38): `wire` is the bytes read from the status byte on, `tail` the level of the response
  tail slot. -/
  | responseFrame (wire : List Byte) (tail : Level)
  /-- RETRY_GAP_END (R41); `mda` is the level read at the LINE CHECK of the next attempt. -/
  | retryGapEnd (mda : Level)
  /-- FIELD_END (R60): the 40 arbitration slots and the 8 check slots as read; `mda` is the level read at the
  LINE CHECK of a CLAIM that follows. -/
  | fieldEnd (unit : UnitNumber) (check : Byte) (mda : Level)
  /-- RECOVERY_SUCCESS (R168): 32 consecutive good slots of the recovery check. -/
  | recoverySuccess
  /-- RECOVERY_TIMEOUT (R168): 256 slots pass without a run of 32. -/
  | recoveryTimeout
  /-- RESET_RELEASE (R173): RESET# is released. -/
  | resetRelease
deriving DecidableEq, Repr

end Sys2Proof
end

