-- ==== Sys2Proof/Decode.lean ====
section
/-! DEFINITION. What a code or an address names: the command codes (R178), the register map (R194), and the
table's words (no row of the table gives bits). -/

namespace Sys2Proof

/-- The command table of R178. -/
def commandTable : List (Byte × Instr) :=
  [ (0x01, .lineEnable), (0x02, .lineDisable), (0x03, .lineRecover), (0x10, .censusStart), (0x11, .censusStop),
    (0x20, .submit), (0x21, .abort), (0x22, .retire), (0x30, .release), (0x31, .renegotiate), (0x32, .bind),
    (0x33, .unbind), (0x40, .commitOffer), (0x7F, .clear) ]

/-- The command that a write of COMMAND with this code takes; `badCommand` for a code not in the table (R177
step 1). -/
def commandOfCode (code : Byte) : Instr :=
  match commandTable.find? (fun row => row.1 == code) with
  | some row => row.2
  | none => .badCommand code

/-- The registers of the window (R175, R194). -/
inductive Register where
  | part | revision | linestate | activity | cause | enable | command | result | resultarg
  | arg (index : Fin 6)
  | tabsel | tabidx | tabdata | queuecount | ringcount | rostercount | linerate | sweepivl | retrylim | waitlim
  | holdoff | misslim | autocensus | tick | reservations | waiting | nextticket
deriving DecidableEq, Repr

/-- The register map in address order, 0x00 to 0x1F (R194). -/
def registerMap : Vector Register 32 :=
  #v[.part, .revision, .linestate, .activity, .cause, .enable, .command, .result,
     .resultarg, .arg 0, .arg 1, .arg 2, .arg 3, .arg 4, .arg 5, .tabsel,
     .tabidx, .tabdata, .queuecount, .ringcount, .rostercount, .linerate, .sweepivl, .retrylim,
     .waitlim, .holdoff, .misslim, .autocensus, .tick, .reservations, .waiting, .nextticket]

/-- The register that A0-A4 select (R174, R194). -/
def registerAt (address : BitVec 5) : Register := registerMap[address.toFin]

/-- The row of the opcode table that a write cycle to a register is (R174, R177, R180, R183 to R186). -/
def writeCycle (address : BitVec 5) (value : Byte) : Instr :=
  match registerAt address with
  | .command => commandOfCode value
  | .tabsel => .tabselWrite value
  | .tabidx => .tabidxWrite value
  | .tabdata => .tabdataWrite value
  | .cause => .causeWrite value
  | .enable => .enableWrite value
  | .sweepivl => .sweepivlWrite value
  | .misslim => .misslimWrite value
  | .autocensus => .autocensusWrite value
  | _ => .registerWrite address value

/-- The command a table word spells. No row of spec/opcode_table.json gives bits, so no word spells one (log 3). -/
def decodeTableWord (_nbits _w : Nat) : Option Instr := none

end Sys2Proof
end

