-- ==== Sys2Proof/Config.lean ====
section
/-! DEFINITION. The fixed figures of the part (revision 0x03). The spec leaves no value open, so there is no free
value here. -/

namespace Sys2Proof.Config

/-- PART reads 0x4C (R175). -/
def part : Byte := 0x4C
/-- REVISION reads 0x03 (R175). -/
def revision : Byte := 0x03
/-- The ring has 16 record slots (R140, R141). -/
def ringSlots : Nat := 16
/-- The request queue holds at most 16 requests (R117). -/
def queueLimit : Nat := 16
/-- An entry keeps at most 8 node pages (R1, R80). -/
def pageLimit : Nat := 8
/-- A PAGE exchange due at this index fails the negotiation (R81). -/
def pageIndexLimit : Nat := 16
/-- A protocol error met with this restart count fails the negotiation (R82). -/
def restartLimit : Nat := 2
/-- Consecutive failed rounds that end a census run (R63). -/
def failedRounds : Nat := 3
/-- The pass-over count at which DISPATCH is placed ahead (R50). -/
def passOverLimit : Nat := 8
/-- The largest payload of a response or a request (R28, R113). -/
def payloadLimit : Nat := 16
/-- Counts that stay at 15: attempts used, miss count, wait count (R117, R107). -/
def nibbleMax : Nat := 15
/-- The claims count stays at 255 (R53). -/
def claimsMax : Nat := 255
/-- A LOST entry is probed every 16th tick (R98). -/
def probeSpacing : Nat := 16
/-- The all-ones unit number, which no node holds (R32, R59). -/
def allOnes : UnitNumber := 0xFFFFFFFFFF

end Sys2Proof.Config
end

