-- ==== Sys2Proof/Machine/State.lean ====
section
/-! DEFINITION. The state of the LC-24 as plain data, the reasons a step may stop, and the state after reset. -/

namespace Sys2Proof.Machine

/-! ## The line engine (chapters 2 and 8) -/

/-- The line states of R48, with the codes of R176. -/
inductive LineState where
  | off | idle | busy | draining | fault | recovering
deriving DecidableEq, Repr

/-- The last fault kind (R165), with the codes of R176. -/
inductive FaultKind where
  | none | stuck | clock
deriving DecidableEq, Repr

/-- Who holds the line: one of the five sources, or the DISMISS of a CLEAR (R36). -/
inductive Source where
  | release | census | negotiate | sweep | dispatch | clearDismiss
deriving DecidableEq, Repr

/-- The eight kinds of command frame (R30). -/
inductive FrameKind where
  | census | claim | dismiss | page | poll | write | read | release
deriving DecidableEq, Repr

/-- A command frame (R27): `address` none is the all-call, `ackFlag` the attention acknowledge of POLL. The
length field is the payload's length and the check byte is computed (R29). -/
structure Frame where
  address : Option Addr
  toggle : Bool
  kind : FrameKind
  ackFlag : Bool
  payload : List Byte
deriving DecidableEq, Repr

/-- What R30 accepts as the answer of a frame: for PAGE the index to be echoed, for READ the length wanted, for
WRITE whether the confirm byte is due (R36). -/
inductive AnswerShape where
  | noAnswer
  | field
  | claim
  | page (index : Nat)
  | poll
  | write (confirm : Bool)
  | read (wanted : Nat)
  | release
deriving DecidableEq, Repr

/-- The phases of an exchange (R36). LINE CHECK is the clear-wait: a check that reads MDA recessive passes at
once into COMMAND (R164). -/
inductive Phase where
  | lineCheck | command | reply | response | retryGap | field
deriving DecidableEq, Repr

/-- Why an attempt failed (R36, R38, R39, R42). -/
inductive Failure where
  | noAnswer | check | sequence | malformed | contention | confirm
deriving DecidableEq, Repr

/-- The current exchange (R36), with the mark for discard of R170. The frame of an addressed exchange holds the entry's
toggle at its first attempt; `sentToggle` is the toggle that the latest attempt sent (R34, R38, R41). -/
structure Exchange where
  source : Source
  frame : Frame
  sentToggle : Bool
  shape : AnswerShape
  allowed : Nat
  used : Nat
  phase : Phase
  lastFailure : Option Failure
  interruptTaken : Bool
  discard : Bool
deriving DecidableEq, Repr

/-! ## The roster (chapter 1) -/

/-- The states of a roster entry (R4). -/
inductive EntryState where
  | free | pending | negotiating | active | refused | lost | releasing
deriving DecidableEq, Repr

/-- A node's reported health (R1, R30). -/
inductive Condition where
  | ok | degraded | failed | unknown
deriving DecidableEq, Repr

/-- Where an attention report stands (R1, R104). -/
inductive AttentionState where
  | none | held | reported
deriving DecidableEq, Repr

/-- The length classes of a BASE page and the payload limits of the terms: 4, 8, 12 or 16 bytes (R73, R87). -/
inductive LengthClass where
  | bytes4 | bytes8 | bytes12 | bytes16
deriving DecidableEq, Repr

/-- The poll classes: 1, 2, 4 or 8 sweep ticks (R73, R87). -/
inductive PollClass where
  | ticks1 | ticks2 | ticks4 | ticks8
deriving DecidableEq, Repr

/-- The resolved terms of an entry (R1, R87). -/
structure Terms where
  payloadLimit : LengthClass
  pollClass : PollClass
  attention : Bool
  confirm : Bool
deriving DecidableEq, Repr

/-- The objects a node serves (R1, R74); it holds no object when lowest is above highest. -/
structure ObjectRange where
  lowest : Byte
  highest : Byte
deriving DecidableEq, Repr

/-- One entry of the roster (R1). has-terms is `terms.isSome`, which R2 makes the same thing. -/
structure Entry where
  state : EntryState
  unit : UnitNumber
  toggle : Bool
  terms : Option Terms
  pages : List PageWord
  deviceClass : Option (BitVec 12)
  objects : Option ObjectRange
  condition : Condition
  attention : AttentionState
  misses : Nat
  holdOff : Option Nat
  due : Bool
deriving DecidableEq, Repr

/-- The entry with every field at its empty value (R1). -/
def Entry.empty : Entry :=
  { state := .free, unit := 0, toggle := false, terms := none, pages := [], deviceClass := none, objects := none,
    condition := .unknown, attention := .none, misses := 0, holdOff := none, due := false }

/-- A binding row in use (R13). -/
structure Binding where
  address : Addr
  unit : UnitNumber
deriving DecidableEq, Repr

/-! ## Census and negotiation (chapters 3 and 4) -/

/-- The census state (R53). -/
inductive CensusState where
  | idle | running | stopping
deriving DecidableEq, Repr

/-- The round in progress (R53): the run's DISMISS, the CENSUS frame and its field, or the CLAIM with the winning
unit, the chosen address and whether it is a rejoin. -/
inductive Round where
  | dismiss
  | field
  | claim (unit : UnitNumber) (address : Addr) (rejoin : Bool)
deriving DecidableEq, Repr

/-- The outcomes of a census run (R70). -/
inductive RunOutcome where
  | complete | rosterFull | failedRounds | stopped | line
deriving DecidableEq, Repr

/-- The negotiation in progress (R78). -/
structure Negotiation where
  address : Addr
  next : Nat
  restarts : Nat
  waits : Nat
deriving DecidableEq, Repr

/-- The refusal reasons of a negotiation (R89). -/
inductive RefusalReason where
  | noPollClass | notAgreed | pagesOverflow | protocol
deriving DecidableEq, Repr

/-- A copy of the offer as its row of 25 bytes: the count, then eight slots of a page word and a flags byte
(R75, R193). -/
abbrev Offer := Vector Byte 25

/-- The default offer (R75): count 1, page 0 BASE with length class 16, every poll class, attention and confirm
capable, not binding. The stored more and agree of page 0, which R76 never reads and R75 does not give, are 0
(log 19). -/
def Offer.default : Offer :=
  #v[1, 0x0F, 0xF0, 0, 0, 0, 0, 0, 0, 0, 0, 0, 0, 0, 0, 0, 0, 0, 0, 0, 0, 0, 0, 0, 0]

/-! ## Requests and the completion ring (chapters 6 and 7) -/

/-- The kinds of request (R113). -/
inductive RequestKind where
  | write | read
deriving DecidableEq, Repr

/-- The phases of a request (R118). -/
inductive RequestPhase where
  | unstarted | held | onLine
deriving DecidableEq, Repr

/-- The completion result codes (R139). -/
inductive Completion where
  | done | refused | noAnswer | outOfStep | nodeBusy | nodeLost | nodeRestarted | released | aborted | lineFault
  | tooLong | outOfRange | nodeRefused
deriving DecidableEq, Repr

/-- One request of the queue (R117); `address` none is the all-call. -/
structure Request where
  ticket : Byte
  address : Option Addr
  kind : RequestKind
  object : Byte
  length : Nat
  payload : Vector Byte 16
  noRetry : Bool
  phase : RequestPhase
  verdict : Option Completion
  attempts : Nat
  waits : Nat
  abortRequested : Bool
deriving DecidableEq, Repr

/-- A request record (R131); the response length is the payload's length. -/
structure RequestRecord where
  address : Option Addr
  ticket : Byte
  result : Completion
  reason : BitVec 4
  attempts : Nat
  abortRequested : Bool
  waits : Nat
  payload : List Byte
deriving DecidableEq, Repr

/-- The data of an event by its kind (R146). -/
inductive EventData where
  | joined (terms : Terms) (deviceClass : Option (BitVec 12))
  | refused (reason : RefusalReason)
  | lost
  | back
  | restarted
  | released (answered : Bool)
  | condition (value : Condition)
  | attention (code : Byte)
  | censusEnd (outcome : RunOutcome) (claims : Nat)
deriving DecidableEq, Repr

/-- An event record (R145); `address` is none for a CENSUS END alone. -/
structure EventRecord where
  address : Option Addr
  unit : UnitNumber
  data : EventData
deriving DecidableEq, Repr

/-- One record of the ring (R140). -/
inductive Record where
  | request (record : RequestRecord)
  | event (record : EventRecord)
deriving DecidableEq, Repr

/-- The pending-event store of one address (R148 to R150). -/
structure Store where
  status : Option EventRecord
  condition : Option EventRecord
  attention : Option EventRecord
deriving DecidableEq, Repr

/-- A store with no event waiting. -/
def Store.empty : Store := { status := none, condition := none, attention := none }

/-! ## The whole state -/

/-- The state of the coordinator, with the queue of commands that wait for it. INVENTORY.md names the rule of
every field. -/
structure State where
  lineState : LineState
  faultKind : FaultKind
  lineRateInForce : Byte
  exchange : Option Exchange
  passOver : Nat
  roster : Vector Entry 24
  bindings : Vector (Option Binding) 8
  censusState : CensusState
  dismissOwed : Bool
  claims : Nat
  failures : Nat
  yield : Bool
  round : Option Round
  autoTimer : Option Nat
  fifo : List Addr
  negotiation : Option Negotiation
  commitPending : Bool
  shadow : Offer
  active : Offer
  tickTimer : Nat
  tickCounter : Byte
  sweepPointer : Fin 25
  staging : Vector Byte 21
  queue : List Request
  ticketCounter : Byte
  ring : List Record
  stores : Vector Store 24
  censusSlot : Option EventRecord
  cause : Byte
  enable : Byte
  result : Byte
  resultArg : Byte
  args : Vector Byte 6
  tabsel : Byte
  tabidx : Byte
  latch : Vector Byte 32
  latchPointer : Nat
  latchEnd : Nat
  lineRate : Byte
  sweepInterval : Byte
  retryLimit : Byte
  waitLimit : Byte
  holdOffTime : Byte
  missLimit : Byte
  autoCensus : Byte
  clearing : Bool
  resetAsserted : Bool
  readData : Byte
  pending : List Instr
deriving DecidableEq, Repr

/-- The reasons a step could stop with a fault: there are none. A line fault is a line state (R166), a refused
command has a result code (R177), and no rule of the spec stops the part. -/
inductive Fault where
deriving DecidableEq, Repr

/-- The reasons a step could be refused. -/
inductive Refusal where
  /-- An arm of `exec` whose row has no meaning yet. No arm raises it. Safe: the model would stop. -/
  | notModelled (mnemonic : String)
deriving DecidableEq, Repr

/-- The coordinator after a hardware reset whose RESET# has been released (R22, R52, R53, R95, R96, R113, R138,
R157, R173, R175, R187; log 4). The tick timer is the full interval of 10 ms, in half milliseconds (log 20). -/
def State.reset : State :=
  { lineState := .off, faultKind := .none, lineRateInForce := 3, exchange := none, passOver := 0,
    roster := .replicate 24 Entry.empty, bindings := .replicate 8 none,
    censusState := .idle, dismissOwed := false, claims := 0, failures := 0, yield := false, round := none,
    autoTimer := none,
    fifo := [], negotiation := none, commitPending := false, shadow := Offer.default, active := Offer.default,
    tickTimer := 20, tickCounter := 0, sweepPointer := 0,
    staging := .replicate 21 0, queue := [], ticketCounter := 0,
    ring := [], stores := .replicate 24 Store.empty, censusSlot := none,
    cause := 0, enable := 0, result := 0, resultArg := 0, args := .replicate 6 0,
    tabsel := 0, tabidx := 0, latch := .replicate 32 0, latchPointer := 0, latchEnd := 0,
    lineRate := 3, sweepInterval := 10, retryLimit := 2, waitLimit := 8, holdOffTime := 4, missLimit := 3,
    autoCensus := 0,
    clearing := false, resetAsserted := false, readData := 0, pending := [] }

end Sys2Proof.Machine
end

