-- ==== Sys2Proof/Machine/Flags.lean ====
section
/-! DEFINITION. The codes of every named value (R139, R146, R176, R179, R193), the CAUSE bits (R185, R194) and the
interrupt line (R186). -/

namespace Sys2Proof.Machine

/-! ## Codes -/

/-- LINESTATE bits 2-0 (R176, R194). -/
def LineState.code : LineState → Byte
  | .off => 0 | .idle => 1 | .busy => 2 | .draining => 3 | .fault => 4 | .recovering => 5

/-- LINESTATE bits 5-4 (R176, R194). -/
def FaultKind.code : FaultKind → Byte
  | .none => 0 | .stuck => 1 | .clock => 2

/-- ACTIVITY bits 1-0 (R176, R194). -/
def CensusState.code : CensusState → Byte
  | .idle => 0 | .running => 1 | .stopping => 2

/-- Byte 0 of a ROSTER row (R193). -/
def EntryState.code : EntryState → Byte
  | .free => 0 | .pending => 1 | .negotiating => 2 | .active => 3 | .refused => 4 | .lost => 5 | .releasing => 6

/-- Byte 7 of a ROSTER row and of a CONDITION record (R193). -/
def Condition.code : Condition → Byte
  | .ok => 0 | .degraded => 1 | .failed => 2 | .unknown => 3

/-- The condition a POLL answer's condition byte reports; none above 2 (R30, R40). -/
def Condition.ofCode? (code : Byte) : Option Condition :=
  if code = 0 then some .ok else if code = 1 then some .degraded else if code = 2 then some .failed else none

/-- Bits 5-4 of byte 6 of a ROSTER row (R193). -/
def AttentionState.code : AttentionState → Byte
  | .none => 0 | .held => 1 | .reported => 2

/-- The number of bytes of a length class (R73, R193). -/
def LengthClass.bytes : LengthClass → Nat
  | .bytes4 => 4 | .bytes8 => 8 | .bytes12 => 12 | .bytes16 => 16

/-- The number of sweep ticks of a poll class (R73, R193). -/
def PollClass.ticks : PollClass → Nat
  | .ticks1 => 1 | .ticks2 => 2 | .ticks4 => 4 | .ticks8 => 8

/-- Staging and QUEUE row kinds (R113, R193). -/
def RequestKind.code : RequestKind → Byte
  | .write => 1 | .read => 2

/-- The request kind a staging byte names; none for every other value (R113, R114). -/
def RequestKind.ofCode? (code : Byte) : Option RequestKind :=
  if code = 1 then some .write else if code = 2 then some .read else none

/-- Byte 5 of a QUEUE row (R193). -/
def RequestPhase.code : RequestPhase → Byte
  | .unstarted => 0 | .held => 1 | .onLine => 2

/-- Completion result codes (R139). -/
def Completion.code : Completion → Byte
  | .done => 0x00 | .refused => 0x01 | .noAnswer => 0x02 | .outOfStep => 0x03 | .nodeBusy => 0x04
  | .nodeLost => 0x05 | .nodeRestarted => 0x06 | .released => 0x07 | .aborted => 0x08 | .lineFault => 0x09
  | .tooLong => 0x0A | .outOfRange => 0x0B | .nodeRefused => 0x0C

/-- Refusal reasons (R89). -/
def RefusalReason.code : RefusalReason → Byte
  | .noPollClass => 1 | .notAgreed => 2 | .pagesOverflow => 3 | .protocol => 4

/-- Run outcomes (R70). -/
def RunOutcome.code : RunOutcome → Byte
  | .complete => 0 | .rosterFull => 1 | .failedRounds => 2 | .stopped => 3 | .line => 4

/-- Event kind codes (R146). -/
def EventData.code : EventData → Byte
  | .joined _ _ => 0x10 | .refused _ => 0x11 | .lost => 0x12 | .back => 0x13 | .restarted => 0x14
  | .released _ => 0x15 | .condition _ => 0x16 | .attention _ => 0x17 | .censusEnd _ _ => 0x18

/-- Frame kind codes (R30). -/
def FrameKind.code : FrameKind → Byte
  | .census => 1 | .claim => 2 | .dismiss => 3 | .page => 4 | .poll => 5 | .write => 6 | .read => 7 | .release => 8

/-- The command result codes (R179). -/
inductive ResultCode where
  | ok | badCommand | clearing | lineOff | lineFault | wrongLineState | censusRunning | censusIdle | rosterNotEmpty
  | queueFull | badRequest | noNode | tooLong | outOfRange | noTicket | ringEmpty | notEligible | bindingConflict
  | bindingFull | noBinding | offerInvalid | commitPending
deriving DecidableEq, Repr

/-- The byte RESULT holds (R179). -/
def ResultCode.code : ResultCode → Byte
  | .ok => 0x00 | .badCommand => 0x01 | .clearing => 0x02 | .lineOff => 0x03 | .lineFault => 0x04
  | .wrongLineState => 0x05 | .censusRunning => 0x06 | .censusIdle => 0x07 | .rosterNotEmpty => 0x08
  | .queueFull => 0x09 | .badRequest => 0x0A | .noNode => 0x0B | .tooLong => 0x0C | .outOfRange => 0x0D
  | .noTicket => 0x0E | .ringEmpty => 0x0F | .notEligible => 0x10 | .bindingConflict => 0x11 | .bindingFull => 0x12
  | .noBinding => 0x13 | .offerInvalid => 0x14 | .commitPending => 0x15

/-! ## CAUSE, ENABLE and IRQ# -/

/-- The bits of CAUSE and ENABLE (R185). -/
inductive Cause where
  | ring | census | commit | fault | drained | cleared | recovered | backlog
deriving DecidableEq, Repr

/-- A cause's bit, in the positions of R194. -/
def Cause.bit : Cause → Byte
  | .ring => 0x01 | .census => 0x02 | .commit => 0x04 | .fault => 0x08
  | .drained => 0x10 | .cleared => 0x20 | .recovered => 0x40 | .backlog => 0x80

/-- A CAUSE bit is set; a bit already set stays set (R185). -/
def State.setCause (c : Cause) (s : State) : State := { s with cause := s.cause ||| c.bit }

/-- Whether a CAUSE bit is set. -/
def State.hasCause (c : Cause) (s : State) : Bool := s.cause &&& c.bit != 0

/-- IRQ# is asserted while at least one bit is set both in CAUSE and in ENABLE; it has no state of its own (R186). -/
def State.irqAsserted (s : State) : Bool := s.cause &&& s.enable != 0

/-! ## Command results -/

/-- RESULT and RESULTARG of the command just written (R177 step 4, R179). -/
def State.answer (r : ResultCode) (argument : Byte) (s : State) : State :=
  { s with result := r.code, resultArg := argument }

end Sys2Proof.Machine
end

