-- ==== Sys2Proof/Machine/Operands.lean ====
section
/-! DEFINITION. How the coordinator reads and writes bytes: the check byte (R29), command and response frames
(R27, R28, R30, R40, R192), page words (R73, R74, R193), the offer and staging rows (R75, R113, R193). -/

namespace Sys2Proof.Machine

/-! ## Bits and bytes -/

/-- One flag as the bit at a position of a byte. -/
def flagBit (position : Nat) (b : Bool) : Byte := if b then (1 : Byte) <<< position else 0

/-- The five bytes of a unit number, most significant first (spec/00 Byte order). -/
def unitBytes (u : UnitNumber) : List Byte :=
  [u.extractLsb' 32 8, u.extractLsb' 24 8, u.extractLsb' 16 8, u.extractLsb' 8 8, u.extractLsb' 0 8]

/-- A unit number from five bytes, most significant first. -/
def unitOfBytes (b0 b1 b2 b3 b4 : Byte) : UnitNumber := b0 ++ b1 ++ b2 ++ b3 ++ b4

/-- The two bytes of a 16-bit word, most significant first. -/
def wordBytes (w : BitVec 16) : List Byte := [w.extractLsb' 8 8, w.extractLsb' 0 8]

/-- A 16-bit word from two bytes, most significant first. -/
def wordOfBytes (high low : Byte) : BitVec 16 := high ++ low

/-- The address byte of a frame, a row or a record: 0 for the all-call (R27, R193). -/
def addressByte : Option Addr → Byte
  | none => 0
  | some a => BitVec.ofNat 8 a.number

/-! ## The check byte -/

/-- One bit of the CRC-8: shift toward the most significant end, and combine with 0x31 when the bit shifted out
differs from the data bit (R29). -/
def crcBit (register : Byte) (bit : Bool) : Byte :=
  if register.msb != bit then (register <<< 1) ^^^ 0x31 else register <<< 1

/-- One byte of the CRC-8, from its most significant bit (R29). -/
def crcByte (register : Byte) (b : Byte) : Byte :=
  [7, 6, 5, 4, 3, 2, 1, 0].foldl (fun r i => crcBit r (b.getLsbD i)) register

/-- The check byte over a list of bytes in frame order, initial value 0xFF, no final inversion (R29). -/
def checkByte (bytes : List Byte) : Byte := bytes.foldl crcByte 0xFF

/-! ## Command frames -/

/-- The address byte of a command frame: toggle in bit 7, address in bits 4-0 (R192). -/
def Frame.addressField (f : Frame) : Byte := flagBit 7 f.toggle ||| addressByte f.address

/-- The kind byte: the acknowledge flag in bit 4, the kind code in bits 3-0, every other flag 0 (R27, R192). -/
def Frame.kindField (f : Frame) : Byte := flagBit 4 f.ackFlag ||| f.kind.code

/-- The bytes of a command frame before its check byte (R27). -/
def Frame.body (f : Frame) : List Byte :=
  f.addressField :: f.kindField :: BitVec.ofNat 8 f.payload.length :: f.payload

/-- The bytes of a command frame on the line, closed by its check byte (R27, R29). -/
def Frame.bytes (f : Frame) : List Byte := f.body ++ [checkByte f.body]

/-- The bits of a byte in the order they travel, most significant first; 1 is recessive and 0 dominant (R24, R58). -/
def byteLevels (b : Byte) : List Level :=
  [7, 6, 5, 4, 3, 2, 1, 0].map fun i => if b.getLsbD i then Level.recessive else .dominant

/-- The level the coordinator drives in each slot of a command frame, from the first slot after the lead-in to
the slot of the tail, which is dominant (R24, R26). -/
def Frame.slots (f : Frame) : List Level := f.bytes.flatMap byteLevels ++ [.dominant]

/-- An addressed frame: PAGE, POLL, RELEASE, READ, or WRITE to 1..24 (R30, R34). -/
def Frame.addressed (f : Frame) : Option Addr :=
  match f.kind with
  | .page | .poll | .write | .read | .release => f.address
  | .census | .claim | .dismiss => none

/-- Whether the frame expects a response frame: not DISMISS, not WRITE to 0, not CENSUS (R30, R44, R57). -/
def AnswerShape.expectsAnswer : AnswerShape → Bool
  | .noAnswer | .field => false
  | .claim | .page _ | .poll | .write _ | .read _ | .release => true

/-! ## Page words -/

/-- The kinds of page word; value 3 is invalid (R73). -/
inductive PageKind where
  | base | message | plain | invalid
deriving DecidableEq, Repr

/-- Bits 14-13 (R192). -/
def pageKind (w : PageWord) : PageKind :=
  match w.getLsbD 14, w.getLsbD 13 with
  | false, false => .base
  | false, true => .message
  | true, false => .plain
  | true, true => .invalid

/-- Bit 15 (R192). -/
def pageMore (w : PageWord) : Bool := w.getLsbD 15

/-- Bit 12 (R192). -/
def pageAgree (w : PageWord) : Bool := w.getLsbD 12

/-- BASE bits 11-10 (R192). -/
def pageLengthClass (w : PageWord) : LengthClass :=
  match w.getLsbD 11, w.getLsbD 10 with
  | false, false => .bytes4
  | false, true => .bytes8
  | true, false => .bytes12
  | true, true => .bytes16

/-- Whether a BASE page's poll set holds a class: bits 6 to 9 for 1, 2, 4 and 8 (R192). -/
def pageOffersPoll (w : PageWord) : PollClass → Bool
  | .ticks1 => w.getLsbD 6 | .ticks2 => w.getLsbD 7 | .ticks4 => w.getLsbD 8 | .ticks8 => w.getLsbD 9

/-- BASE bit 5 (R192). -/
def pageAttention (w : PageWord) : Bool := w.getLsbD 5

/-- BASE bit 4 (R192). -/
def pageConfirm (w : PageWord) : Bool := w.getLsbD 4

/-- MESSAGE code, bits 11-6 (R192). -/
def pageCode (w : PageWord) : Nat := (w.extractLsb' 6 6).toNat

/-- MESSAGE plain count, bits 5-3 (R192). -/
def pagePlains (w : PageWord) : Nat := (w.extractLsb' 3 3).toNat

/-- PLAIN value, bits 11-0 (R192). -/
def pageValue (w : PageWord) : BitVec 12 := w.extractLsb' 0 12

/-- A NULL page: a MESSAGE page with code 0, whatever its plain count (R73). -/
def pageIsNull (w : PageWord) : Bool := pageKind w == .message && pageCode w == 0

/-- A page word with its more and agree set (R76). -/
def pageWithMarks (w : PageWord) (more agree : Bool) : PageWord :=
  (w &&& 0x6FFF) ||| (if more then 0x8000 else 0) ||| (if agree then 0x1000 else 0)

/-- The positions of the word that its kind does not use (R192): BASE bits 3-0, MESSAGE bits 2-0. -/
def pageUnused (w : PageWord) : PageWord :=
  match pageKind w with
  | .base => 0x000F
  | .message => 0x0007
  | .plain | .invalid => 0

/-- A page word as the coordinator sends it, but for more and agree (R73): the positions that its kind does not use are
0, and a NULL page has plain count 0 (log 22). -/
def pageSent (w : PageWord) : PageWord := if pageIsNull w then w &&& 0xFFC0 else w &&& ~~~pageUnused w

/-! ## Response frames -/

/-- A response frame as its fields (R28, R192). -/
structure Response where
  echo : Bool
  reason : BitVec 4
  status : BitVec 2
  length : Nat
  payload : List Byte
  check : Byte
  tail : Level
deriving DecidableEq, Repr

/-- Byte k of a response as sampled; a slot no node drives reads recessive, which is bit 1 (R24; log 8). -/
def wireByte (wire : List Byte) (k : Nat) : Byte := wire.getD k 0xFF

/-- A response that carries a node page: an ACK to a PAGE, of the length its layout has (R30, R192). -/
def carriesPage (shape : AnswerShape) (wire : List Byte) : Bool :=
  match shape with
  | .page _ => (wireByte wire 0).extractLsb' 0 2 == 1 && wireByte wire 1 == 3
  | _ => false

/-- The positions of byte k that the layout of a response shows as unused (R192): bit 6 of the status byte, and in the
low byte of a node page those that its kind does not use. -/
def unusedAt (shape : AnswerShape) (wire : List Byte) (k : Nat) : Byte :=
  if k = 0 then 0x40
  else if k = 3 ∧ carriesPage shape wire then
    (pageUnused (wordOfBytes (wireByte wire 2) (wireByte wire 3))).extractLsb' 0 8
  else 0

/-- Byte k of a response as it is judged: its unused positions are not read and count as 0 (R73, R192; log 29). -/
def readByte (shape : AnswerShape) (wire : List Byte) (k : Nat) : Byte := wireByte wire k &&& ~~~unusedAt shape wire k

/-- The fields of a response frame in the layout of R192. The coordinator clocks exactly as many payload bytes as the
length byte calls for, and none above 16 (R26, R40). -/
def Response.ofWire (shape : AnswerShape) (wire : List Byte) (tail : Level) : Response :=
  let status := readByte shape wire 0
  let length := (readByte shape wire 1).toNat
  { echo := status.getLsbD 7
    reason := status.extractLsb' 2 4
    status := status.extractLsb' 0 2
    length := length
    payload := if length ≤ Config.payloadLimit then (List.range length).map fun k => readByte shape wire (k + 2) else []
    check := wireByte wire (length + 2)
    tail := tail }

/-- The check byte computed over the status, length and payload bytes as they are judged (R28, R29, R192; log 29). -/
def Response.computedCheck (shape : AnswerShape) (wire : List Byte) : Byte :=
  checkByte ((List.range ((readByte shape wire 1).toNat + 2)).map fun k => readByte shape wire k)

/-- An accepted answer: its status, with the refuse reason or the ACK payload (R28, R43). -/
inductive Answer where
  | ack (payload : List Byte)
  | wait
  | refuse (reason : BitVec 4)
deriving DecidableEq, Repr

/-- Whether an ACK's payload is inside its kind's answer shape (R30, R40). -/
def AnswerShape.acceptsAck (shape : AnswerShape) (payload : List Byte) : Bool :=
  match shape with
  | .noAnswer | .field => false
  | .claim | .release => payload.length == 0
  | .page index => payload.length == 3 && payload.getD 2 0 == BitVec.ofNat 8 index
  | .poll => payload.length == 2 && (Condition.ofCode? (payload.getD 1 0)).isSome
  | .write confirm => payload.length == (if confirm then 1 else 0)
  | .read wanted => payload.length ≤ wanted

/-- Whether WAIT and REFUSE are accepted: for every addressed kind, not for CLAIM (R30). -/
def AnswerShape.acceptsWaitRefuse : AnswerShape → Bool
  | .noAnswer | .field | .claim => false
  | .page _ | .poll | .write _ | .read _ | .release => true

/-- The answer of a response that is inside its kind's shape; none where it is malformed (R40). -/
def Response.shaped (shape : AnswerShape) (r : Response) : Option Answer :=
  if r.tail = .dominant then none
  else if r.status = 1 then
    if r.reason = 0 && shape.acceptsAck r.payload then some (.ack r.payload) else none
  else if r.status = 2 then
    if r.reason = 0 && r.length == 0 && shape.acceptsWaitRefuse then some .wait else none
  else if r.status = 3 then
    if r.reason != 0 && r.length == 0 && shape.acceptsWaitRefuse then some (.refuse r.reason) else none
  else none

/-- The tests of R38 from test 3 on, in their order, for a response frame read whole; `toggle` is the toggle the
attempt sent. -/
def judgeResponse (shape : AnswerShape) (toggle : Bool) (wire : List Byte) (tail : Level) : Except Failure Answer :=
  let r := Response.ofWire shape wire tail
  if r.length > Config.payloadLimit then .error .malformed
  else if r.check != Response.computedCheck shape wire then .error .check
  else if r.echo != toggle then .error .sequence
  else match r.shaped shape with
    | some answer => .ok answer
    | none => .error .malformed

/-! ## Offer rows -/

/-- The page count of an offer copy, as stored (R75). -/
def Offer.count (o : Offer) : Nat := o[0].toNat

/-- The page word of slot k; 0 above slot 7 (R75, R193). -/
def Offer.word (o : Offer) (k : Nat) : PageWord :=
  wordOfBytes (o.toList.getD (1 + 3 * k) 0) (o.toList.getD (2 + 3 * k) 0)

/-- The binding flag of slot k; slots at or above the count, and NULL pages, carry no binding (R75, R76, R193). -/
def Offer.binding (o : Offer) (k : Nat) : Bool :=
  k < o.count && !pageIsNull (o.word k) && (o.toList.getD (3 + 3 * k) 0).getLsbD 0

/-- Whether the coordinator page sent at index i has more yes (R76). -/
def Offer.more (o : Offer) (i : Nat) : Bool := i + 1 < o.count

/-- The coordinator page sent at index i (R76): slot i as R73 sends it, with more and agree as R76 sets them, or a NULL
page with plain count 0, more no and agree yes. -/
def Offer.page (o : Offer) (i : Nat) : PageWord :=
  if i < o.count then pageWithMarks (pageSent (o.word i)) (o.more i) true else 0x3000

/-- How many pages at the front of a list are PLAIN. -/
def leadingPlains : List PageWord → Nat
  | [] => 0
  | w :: rest => if pageKind w = .plain then leadingPlains rest + 1 else 0

/-- Whether every MESSAGE page with plain count k is followed by exactly k PLAIN pages and every PLAIN page
belongs to a MESSAGE, from a point where `owed` PLAIN pages are due (R92). -/
def plainsMatch (owed : Nat) : List PageWord → Bool
  | [] => owed == 0
  | w :: rest =>
    match pageKind w with
    | .plain => owed != 0 && plainsMatch (owed - 1) rest
    | .message => owed == 0 && plainsMatch (pagePlains w) rest
    | .base => owed == 0 && plainsMatch 0 rest
    | .invalid => false

/-- The page words within the count (R92). -/
def Offer.words (o : Offer) : List PageWord := (List.range o.count).map o.word

/-- The validity of an offer copy (R92). -/
def Offer.valid (o : Offer) : Bool :=
  1 ≤ o.count && o.count ≤ 8 &&
  pageKind (o.word 0) == .base &&
  [PollClass.ticks1, .ticks2, .ticks4, .ticks8].any (pageOffersPoll (o.word 0)) &&
  (o.words.drop 1).all (fun w => pageKind w != .base) &&
  o.words.all (fun w => pageKind w != .invalid) &&
  plainsMatch 0 o.words

/-! ## Node messages and terms -/

/-- What the node's messages give (R74): a device class and an object range. -/
structure Described where
  deviceClass : Option (BitVec 12)
  objects : Option ObjectRange
deriving DecidableEq, Repr

/-- An object bound from a plain, clamped to 255 (R74). -/
def clampObject (v : BitVec 12) : Byte := BitVec.ofNat 8 (min v.toNat 255)

/-- One MESSAGE page with the plains that stand after it (R74; log 11): PROFILE gives the class, OBJECTS the range,
a message with fewer plains than it needs gives nothing. -/
def describe (d : Described) (code : Nat) (plains : List PageWord) : Described :=
  if code = 1 then
    match plains with
    | p :: _ => { d with deviceClass := some (pageValue p) }
    | [] => d
  else if code = 2 then
    match plains with
    | p :: q :: _ => { d with objects := some ⟨clampObject (pageValue p), clampObject (pageValue q)⟩ }
    | _ => d
  else d

/-- The node's messages over its page list, a later one replacing what an earlier one of its code gave (R74). -/
def interpretPages (d : Described) : List PageWord → Described
  | [] => d
  | w :: rest =>
    if pageKind w = .message then
      interpretPages (describe d (pageCode w) (rest.take (min (pagePlains w) (leadingPlains rest)))) rest
    else interpretPages d rest

/-- The smaller of two length classes (R87). -/
def LengthClass.smaller (a b : LengthClass) : LengthClass := if a.bytes ≤ b.bytes then a else b

/-- The fastest poll class in both sets, if any (R87). -/
def fastestCommon (a b : PageWord) : Option PollClass :=
  [PollClass.ticks1, .ticks2, .ticks4, .ticks8].find? fun c => pageOffersPoll a c && pageOffersPoll b c

/-- The terms resolved from the two BASE pages; none when the poll sets have no class in common (R87). -/
def resolveTerms (node own : PageWord) : Option Terms :=
  (fastestCommon node own).map fun c =>
    { payloadLimit := (pageLengthClass node).smaller (pageLengthClass own)
      pollClass := c
      attention := pageAttention node && pageAttention own
      confirm := pageConfirm node && pageConfirm own }

/-- Whether a request's object lies outside an entry's range; an absent range is 0..255 (R1, R74). -/
def outsideRange (objects : Option ObjectRange) (object : Byte) : Bool :=
  match objects with
  | none => false
  | some r => object < r.lowest || r.highest < object

/-- Whether a length is above the payload limit of the terms; absent terms set no limit (R114). -/
def aboveLimit (terms : Option Terms) (length : Nat) : Bool :=
  match terms with
  | none => false
  | some t => t.payloadLimit.bytes < length

/-! ## The staging row -/

/-- The address byte of the staging row (R113, R193). -/
def State.stagedAddress (s : State) : Nat := s.staging[1].toNat

/-- The length byte of the staging row (R113, R193). -/
def State.stagedLength (s : State) : Nat := s.staging[3].toNat

/-- The 16 payload bytes of the staging row (R193). -/
def State.stagedPayload (s : State) : Vector Byte 16 := tabulate 16 fun k => s.staging[5 + k.val]

/-- The request formed from the staging row (R115): UNSTARTED, no verdict, counts 0. -/
def State.stagedRequest (s : State) (ticket : Byte) (kind : RequestKind) : Request :=
  { ticket := ticket, address := Addr.ofNumber? s.stagedAddress, kind := kind, object := s.staging[2],
    length := s.stagedLength, payload := s.stagedPayload, noRetry := (s.staging[4]).getLsbD 0,
    phase := .unstarted, verdict := none, attempts := 0, waits := 0, abortRequested := false }

/-! ## Command arguments -/

/-- The address argument of a command, ARG0 as a whole byte; none outside 1..24 (R178). -/
def State.argAddress (s : State) : Option Addr := Addr.ofNumber? s.args[0].toNat

/-- BIND's unit number, ARG1 to ARG5, most significant byte first (R178). -/
def State.argUnit (s : State) : UnitNumber := unitOfBytes s.args[1] s.args[2] s.args[3] s.args[4] s.args[5]

end Sys2Proof.Machine
end

