-- ==== Sys2Proof/Machine/Ops.lean ====
section
/-! DEFINITION. The named operations over the state that several meanings share: roster entries and the negotiation
FIFO (R5), reservations, posting and waiting (R141, R147 to R153), verdicts (R132), the end of a negotiation
(R91, R94) and the auto-census timer (R71). -/

namespace Sys2Proof.Machine

/-! ## Roster entries -/

/-- The entry of a line address (R1). -/
def State.entry (s : State) (a : Addr) : Entry := s.roster[a.val]

/-- The state with one entry replaced. -/
def State.setEntry (a : Addr) (e : Entry) (s : State) : State := { s with roster := s.roster.set a.val e }

/-- The state with one entry changed. -/
def State.modifyEntry (a : Addr) (f : Entry → Entry) (s : State) : State := s.setEntry a (f (s.entry a))

/-- The state with every entry changed. -/
def State.mapEntries (f : Addr → Entry → Entry) (s : State) : State :=
  { s with roster := tabulate 24 fun a => f a (s.entry a) }

/-- The first address, in ascending order, whose entry satisfies a test. -/
def State.findEntry? (s : State) (p : Entry → Bool) : Option Addr := Addr.all.find? fun a => p (s.entry a)

/-- The number of entries that are not FREE, which the host reads as ROSTERCOUNT (R4, R23). -/
def State.rosterCount (s : State) : Nat := Addr.all.countP fun a => (s.entry a).state != .free

/-- The entry is in hold-off (R3). -/
def Entry.inHoldOff (e : Entry) : Bool := e.holdOff.isSome

/-! ## Bindings -/

/-- The rows of the binding table in use (R13). -/
def State.boundRows (s : State) : List Binding := s.bindings.toList.filterMap id

/-- The binding row that holds a unit number, if any. -/
def State.bindingOfUnit? (s : State) (u : UnitNumber) : Option Binding := s.boundRows.find? fun b => b.unit == u

/-- Whether a binding row holds an address. -/
def State.isBound (s : State) (a : Addr) : Bool := s.boundRows.any fun b => b.address == a

/-! ## The negotiation FIFO -/

/-- The state with an address in the FIFO, at the tail unless it stands there already (R5, R77). -/
def State.appendFifo (a : Addr) (s : State) : State :=
  if a ∈ s.fifo then s else { s with fifo := s.fifo ++ [a] }

/-- The state with an address in the FIFO, at the head unless it stands there already (R5, R77). -/
def State.prependFifo (a : Addr) (s : State) : State :=
  if a ∈ s.fifo then s else { s with fifo := a :: s.fifo }

/-- The state with an address taken out of the FIFO (R5, R77). -/
def State.dropFifo (a : Addr) (s : State) : State := { s with fifo := s.fifo.erase a }

/-- Entering PENDING at the FIFO tail: the due flag is cleared (R5). -/
def State.enterPending (a : Addr) (s : State) : State :=
  (s.modifyEntry a fun e => { e with state := .pending, due := false }).appendFifo a

/-! ## Ring, reservations and waiting -/

/-- A request that holds a reservation: HELD or ON-LINE (R118, R141). -/
def Request.reserved (r : Request) : Bool := r.phase != .unstarted

/-- An UNSTARTED request whose verdict is not yet posted (R152). -/
def Request.verdictWaits (r : Request) : Bool := r.phase == .unstarted && r.verdict.isSome

/-- The reservations held (R118, R141). -/
def State.reservations (s : State) : Nat := s.queue.countP Request.reserved

/-- Ring records plus reservations (R141). -/
def State.occupancy (s : State) : Nat := s.ring.length + s.reservations

/-- The pending-event store of an address (R148). -/
def State.store (s : State) (a : Addr) : Store := s.stores[a.val]

/-- The state with one store replaced. -/
def State.setStore (a : Addr) (st : Store) (s : State) : State := { s with stores := s.stores.set a.val st }

/-- The number of occupied slots of a store. -/
def Store.occupied (st : Store) : Nat := st.status.isSome.toNat + st.condition.isSome.toNat + st.attention.isSome.toNat

/-- The number of items waiting, which the host reads as WAITING (R152). -/
def State.waiting (s : State) : Nat :=
  s.queue.countP Request.verdictWaits + (Addr.all.map fun a => (s.store a).occupied).sum +
    s.censusSlot.isSome.toNat

/-- A new item posts at once: records plus reservations below 16 and nothing waiting (R132, R147). -/
def State.roomNow (s : State) : Bool := s.occupancy < Config.ringSlots && s.waiting == 0

/-- A record is posted at the tail and CAUSE.RING is set (R140, R155). -/
def State.post (r : Record) (s : State) : State := { s with ring := s.ring ++ [r] }.setCause .ring

/-- CAUSE.BACKLOG is set when WAITING is about to rise from 0 to 1 (R156). -/
def State.noteBacklog (s : State) : State := if s.waiting = 0 then s.setCause .backlog else s

/-- A store with an event in the slot of its kind, in place of one that waits there (R146, R148 to R150). -/
def Store.place (st : Store) (e : EventRecord) : Store :=
  match e.data with
  | .condition _ => { st with condition := some e }
  | .attention _ => { st with attention := some e }
  | .joined _ _ | .refused _ | .lost | .back | .restarted | .released _ | .censusEnd _ _ =>
    { st with status := some e }

/-- An event is placed in its waiting place: the census slot for a CENSUS END, which has no address, otherwise the
store of its address (R146, R148 to R151). -/
def State.placeWaiting (e : EventRecord) (s : State) : State :=
  match e.address with
  | none => { s with censusSlot := some e }
  | some a => s.setStore a ((s.store a).place e)

/-- An event that finds no room begins to wait (R147, R156). -/
def State.hold (e : EventRecord) (s : State) : State := s.noteBacklog.placeWaiting e

/-- An event is raised: posted at once where there is room, otherwise placed in its waiting place (R147). -/
def State.raise (e : EventRecord) (s : State) : State :=
  if s.roomNow then s.post (.event e) else s.hold e

/-- An event about an entry is raised with the unit number the entry holds at that moment (R5, R145). -/
def State.raiseAt (a : Addr) (data : EventData) (s : State) : State :=
  s.raise { address := some a, unit := (s.entry a).unit, data := data }

/-! ## The request queue -/

/-- The first element that satisfies a test, changed. -/
def updateFirst {α : Type} (p : α → Bool) (f : α → α) : List α → List α
  | [] => []
  | x :: rest => if p x then f x :: rest else x :: updateFirst p f rest

/-- The state with the first request that satisfies a test changed. -/
def State.modifyRequest (p : Request → Bool) (f : Request → Request) (s : State) : State :=
  { s with queue := updateFirst p f s.queue }

/-- The state with the first request that satisfies a test taken out of the queue. -/
def State.dropRequest (p : Request → Bool) (s : State) : State := { s with queue := s.queue.eraseP p }

/-- The request is ON-LINE (R118). -/
def Request.isOnLine (r : Request) : Bool := r.phase == .onLine

/-- The request holds a ticket (R116). -/
def Request.hasTicket (ticket : Byte) (r : Request) : Bool := r.ticket == ticket

/-- The request that holds a ticket, if any. -/
def State.request? (s : State) (ticket : Byte) : Option Request := s.queue.find? (Request.hasTicket ticket)

/-- The request that is ON-LINE, if any; at most one is (R118). -/
def State.onLine? (s : State) : Option Request := s.queue.find? Request.isOnLine

/-- The record of a request (R131): `payload` is the ACK payload for DONE and empty otherwise. -/
def Request.record (r : Request) (result : Completion) (reason : BitVec 4) (payload : List Byte) : RequestRecord :=
  { address := r.address, ticket := r.ticket, result := result, reason := reason, attempts := r.attempts,
    abortRequested := r.abortRequested, waits := r.waits, payload := payload }

/-- A request's record is posted and the request that holds its ticket leaves the queue (R117, R131). -/
def State.postRequest (r : Request) (result : Completion) (s : State) : State :=
  (s.dropRequest (Request.hasTicket r.ticket)).post (.request (r.record result 0 []))

/-- A verdict is given to the request that holds a ticket, if it has none and is not ON-LINE (R132): a HELD
request's record is posted through its reservation; an UNSTARTED request posts where there is room and otherwise
keeps its place with the verdict stored. -/
def State.giveVerdict (ticket : Byte) (verdict : Completion) (s : State) : State :=
  match s.request? ticket with
  | none => s
  | some r =>
    if r.verdict.isSome then s
    else match r.phase with
      | .onLine => s
      | .held => s.postRequest r verdict
      | .unstarted =>
        if s.roomNow then s.postRequest r verdict
        else s.noteBacklog.modifyRequest (Request.hasTicket ticket) fun q => { q with verdict := some verdict }

/-- One cause gives verdicts to several requests, in queue order (R132): `which` names the requests it reaches and
the verdict of each. -/
def State.giveVerdicts (which : Request → Option Completion) (s : State) : State :=
  (s.queue.filterMap fun r => (which r).map fun v => (r.ticket, v)).foldl (fun t w => t.giveVerdict w.1 w.2) s

/-- A verdict to every request for an address (R133). -/
def State.giveAddressVerdicts (a : Addr) (verdict : Completion) (s : State) : State :=
  s.giveVerdicts fun r => if r.address = some a then some verdict else none

/-! ## Entering LOST and FREE -/

/-- Entering LOST (R5, R7, R108): the hold-off becomes none, NODE_LOST verdicts are given, status event LOST is
raised. Every other field, the due flag and the miss count among them, is kept. -/
def State.enterLost (a : Addr) (s : State) : State :=
  ((s.modifyEntry a fun e => { e with state := .lost, holdOff := none }).giveAddressVerdicts a .nodeLost).raiseAt a .lost

/-- A RELEASING entry becomes FREE: RELEASED is raised with the unit number it held, every field takes its empty
value and the address leaves the FIFO (R5, R10, R19). -/
def State.becomeFree (a : Addr) (answered : Bool) (s : State) : State :=
  ((s.raiseAt a (.released answered)).setEntry a Entry.empty).dropFifo a

/-- One miss is added to an entry; at the miss limit an ACTIVE entry becomes LOST (R107, R108). -/
def State.addMiss (a : Addr) (s : State) : State :=
  let count := min Config.nibbleMax ((s.entry a).misses + 1)
  let s' := s.modifyEntry a fun e => { e with misses := count }
  if (s.entry a).state = .active && s.missLimit.toNat ≤ count then s'.enterLost a else s'

/-! ## The end of a negotiation -/

/-- The copy of a pending commit: the shadow becomes active, the flag is cleared, CAUSE.COMMIT is set (R94). -/
def State.copyPendingCommit (s : State) : State :=
  if s.commitPending then { s with active := s.shadow, commitPending := false }.setCause .commit else s

/-- The negotiation in progress ends: its record is emptied and a pending commit is copied (R91, R94). -/
def State.endNegotiation (s : State) : State := { s with negotiation := none }.copyPendingCommit

/-- A disable or a fault abandons the negotiation in progress: the entry returns to PENDING at the FIFO head with
its page list cleared (R6, R85). -/
def State.abandonNegotiation (s : State) : State :=
  match s.negotiation with
  | none => s
  | some n =>
    ((s.modifyEntry n.address fun e => { e with state := .pending, due := false, pages := [] }).prependFifo
      n.address).endNegotiation

/-- The negotiation in progress ends if it is the one of this address (R11, R16, R86). -/
def State.endNegotiationOf (a : Addr) (s : State) : State :=
  match s.negotiation with
  | none => s
  | some n => if n.address = a then s.endNegotiation else s

/-! ## Timers -/

/-- The auto-census period in half milliseconds, n × 100 ms; none for 0, which is off (R71; log 20). -/
def autoPeriod (register : Byte) : Option Nat := if register = 0 then none else some (register.toNat * 200)

/-- The auto-census timer restarts from its full period, or stays stopped while AUTOCENSUS is 0 (R71). -/
def State.restartAutoTimer (s : State) : State := { s with autoTimer := autoPeriod s.autoCensus }

/-- The tick timer's full interval in half milliseconds (R97, R98; log 20). -/
def State.fullTick (s : State) : Nat := s.sweepInterval.toNat * 2

/-! ## The command mechanism -/

/-- What every event does while RESET# is asserted: nothing (R173, R174, R187). -/
def State.unlessReset (s : State) (after : State) : State := if s.resetAsserted then s else after

/-- A command of the table is taken or refused (R177): during a CLEAR it is refused with CLEARING (R170), otherwise
with the first refusal of its owning rule, and a taken one makes its effects with result OK and `argument` in
RESULTARG. -/
def State.command (s : State) (refusal : Option ResultCode) (effect : State) (argument : Byte := 0) : State :=
  s.unlessReset <|
    if s.clearing then s.answer .clearing 0
    else match refusal with
      | some r => s.answer r 0
      | none => effect.answer .ok argument

/-- The first refusal whose condition holds (spec/00 Taken and refused). -/
def firstRefusal : List (Bool × ResultCode) → Option ResultCode
  | [] => none
  | (holds, r) :: rest => if holds then some r else firstRefusal rest

end Sys2Proof.Machine
end

