-- ==== Sys2Proof/Machine/Ends.lean ====
section
/-! DEFINITION. The five ways an exchange ends (section 2.6), as the line engine hands them to a source. -/

namespace Sys2Proof.Machine

/-- The end of an exchange (R43 to R47). An exhausted end carries whether its result is OUT_OF_STEP (R45). -/
inductive ExchangeEnd where
  | ack (payload : List Byte)
  | refuse (reason : BitVec 4)
  | wait
  | sent
  | exhausted (outOfStep : Bool)
  | interrupted
  | faulted
deriving DecidableEq, Repr

/-- The end of an exchange whose answer was accepted (R43). -/
def Answer.toEnd : Answer → ExchangeEnd
  | .ack payload => .ack payload
  | .refuse reason => .refuse reason
  | .wait => .wait

end Sys2Proof.Machine
end

