-- ==== Sys2Proof/Machine/Roster.lean ====
section
/-! DEFINITION. The roster (chapter 1): address assignment, entry creation and rejoin, the end of a RELEASE exchange,
and the commands RELEASE, RENEGOTIATE, BIND, UNBIND and the event HOLD_OFF_END. -/

namespace Sys2Proof.Machine

/-! ## Address assignment and claims -/

/-- Steps 2 and 3 of R8: the bound address of the unit, or the lowest address whose entry is FREE, that no binding
row holds and whose pending-event store is empty. -/
def State.newAddress (u : UnitNumber) (s : State) : Option Addr :=
  match s.bindingOfUnit? u with
  | some b => some b.address
  | none => Addr.all.find? fun a => (s.entry a).state == .free && !s.isBound a && (s.store a).occupied == 0

/-- The entry that is not FREE and holds a unit number, if any (R8 step 1). -/
def State.holderOf (u : UnitNumber) (s : State) : Option Addr :=
  s.findEntry? fun e => e.state != .free && e.unit == u

/-- Address assignment for a winning unit number (R8): the state, in which a RELEASING holder has been freed (R10),
and the chosen address with whether the CLAIM is a rejoin. -/
def State.assignAddress (u : UnitNumber) (s : State) : State × Option (Addr × Bool) :=
  match s.holderOf u with
  | none => (s, (s.newAddress u).map fun a => (a, false))
  | some h =>
    if (s.entry h).state = .releasing then
      let t := s.becomeFree h false
      (t, (t.newAddress u).map fun a => (a, false))
    else (s, some (h, true))

/-- The claims count is incremented; at 255 it stays (R53). -/
def State.countClaim (s : State) : State := { s with claims := min Config.claimsMax (s.claims + 1) }

/-- An accepted new-entry CLAIM creates the entry (R9). -/
def State.createEntry (u : UnitNumber) (a : Addr) (s : State) : State :=
  ((s.setEntry a { Entry.empty with state := .pending, unit := u }).appendFifo a).countClaim

/-- The entry's fields after a rejoin (R11 steps 3 and 5): has-terms, the terms and the unit number are kept. -/
def Entry.rejoined (e : Entry) : Entry :=
  { e with state := .pending, toggle := false, pages := [], deviceClass := none, objects := none,
           condition := .unknown, attention := .none, misses := 0, holdOff := none, due := false }

/-- The store after a rejoin: the condition and attention slots are emptied (R11 step 4). -/
def Store.rejoined (st : Store) : Store := { st with condition := none, attention := none }

/-- The store after a RELEASE: the attention slot is emptied (R16 step 3). -/
def Store.dropAttention (st : Store) : Store := { st with attention := none }

/-- An accepted rejoin CLAIM takes effect, in the order of R11. -/
def State.rejoin (a : Addr) (s : State) : State :=
  let s1 := (s.giveAddressVerdicts a .nodeRestarted).endNegotiationOf a
  let s2 := s1.modifyEntry a Entry.rejoined
  let s3 := (s2.setStore a (s2.store a).rejoined).appendFifo a
  s3.countClaim.raiseAt a .restarted

/-- An accepted rejoin CLAIM of an entry that a RELEASE made RELEASING in the meantime: the toggle is set to 0 and
the claim counted; the rejoin does not take effect (R69). -/
def State.claimReleasing (a : Addr) (s : State) : State :=
  (s.modifyEntry a fun e => { e with toggle := false }).countClaim

/-- The effect of the round's accepted CLAIM (R9, R11, R62, R69). -/
def State.claimAccepted (s : State) : State :=
  match s.round with
  | some (.claim u a false) => s.createEntry u a
  | some (.claim _ a true) => if (s.entry a).state = .releasing then s.claimReleasing a else s.rejoin a
  | _ => s

/-! ## The end of a RELEASE exchange -/

/-- R19: ACK, REFUSE and attempts exhausted free the entry; WAIT, an interruption and a fault leave it RELEASING. -/
def State.releaseEnd (a : Addr) (e : ExchangeEnd) (s : State) : State :=
  match e with
  | .ack _ => s.becomeFree a true
  | .refuse _ | .exhausted _ => s.becomeFree a false
  | .wait | .sent | .interrupted | .faulted => s

/-! ## RELEASE -/

/-- The effects of a taken RELEASE, in the order of R16. -/
def State.releaseEntry (a : Addr) (s : State) : State :=
  let s1 := ((s.giveAddressVerdicts a .released).endNegotiationOf a).dropFifo a
  let s2 := s1.modifyEntry a fun e => { e with state := .releasing, attention := .none, due := false }
  s2.setStore a (s2.store a).dropAttention

/-- RELEASE (R16); the CLEARING check is made by `State.command`. -/
def execRelease (s : State) : Host.Outcome State Fault Refusal :=
  .next <| match s.argAddress with
    | none => s.command (some .badRequest) s
    | some a =>
      let state := (s.entry a).state
      s.command (firstRefusal [(state == .free || state == .releasing, .notEligible)]) (s.releaseEntry a)

/-! ## RENEGOTIATE -/

/-- RENEGOTIATE (R20): an ACTIVE or REFUSED entry becomes PENDING at the FIFO tail and keeps its other fields. -/
def execRenegotiate (s : State) : Host.Outcome State Fault Refusal :=
  .next <| match s.argAddress with
    | none => s.command (some .badRequest) s
    | some a =>
      let state := (s.entry a).state
      s.command (firstRefusal [(state != .active && state != .refused, .notEligible)]) (s.enterPending a)

/-! ## BIND and UNBIND -/

/-- The unit and address that a round's CLAIM holds between the reading of the field and the CLAIM's end (R69). -/
def State.claimed (s : State) : Option (UnitNumber × Addr) :=
  match s.round with
  | some (.claim u a _) => some (u, a)
  | _ => none

/-- An entry that is not FREE, or the round's CLAIM, holds the address with another unit or the unit at another
address (R14 step 5, R69). -/
def State.heldElsewhere (a : Addr) (u : UnitNumber) (s : State) : Bool :=
  (Addr.all.any fun b => (s.entry b).state != .free && ((b == a) != ((s.entry b).unit == u))) ||
    (match s.claimed with
     | none => false
     | some (v, b) => (b == a) != (v == u))

/-- An event waiting in the address's store carries another unit number (R14 step 5). -/
def State.storeOfOther (a : Addr) (u : UnitNumber) (s : State) : Bool :=
  let st := s.store a
  [st.status, st.condition, st.attention].any fun slot =>
    match slot with
    | none => false
    | some e => e.unit != u

/-- A row is unused. -/
def rowUnused (row : Option Binding) : Bool := row.isNone

/-- The binding table with a row's content written into the first row that satisfies a test. -/
def State.writeBinding (p : Option Binding → Bool) (row : Option Binding) (s : State) : State :=
  match (List.finRange 8).find? fun i => p s.bindings[i.val] with
  | none => s
  | some i => { s with bindings := s.bindings.set i.val row }

/-- The checks of BIND from step 3 on (R14): none where the binding is to be written or stands already. -/
def State.bindRefusal (a : Addr) (u : UnitNumber) (s : State) : Option ResultCode :=
  if s.boundRows.any (fun b => b.address == a && b.unit == u) then none
  else firstRefusal
    [ (s.boundRows.any (fun b => b.address == a || b.unit == u), .bindingConflict),
      (s.heldElsewhere a u || s.storeOfOther a u, .bindingConflict),
      (s.bindings.toList.all (fun row => !rowUnused row), .bindingFull) ]

/-- The binding is written into the lowest-indexed unused row, unless the row stands already (R14). -/
def State.writeBind (a : Addr) (u : UnitNumber) (s : State) : State :=
  if s.boundRows.any (fun b => b.address == a && b.unit == u) then s
  else s.writeBinding rowUnused (some { address := a, unit := u })

/-- BIND (R14). -/
def execBind (s : State) : Host.Outcome State Fault Refusal :=
  .next <| match s.argAddress with
    | none => s.command (some .badRequest) s
    | some a =>
      let u := s.argUnit
      s.command (if u = Config.allOnes then some .badRequest else s.bindRefusal a u) (s.writeBind a u)

/-- UNBIND (R15): the row holding the address becomes unused; the other rows keep their indices. -/
def execUnbind (s : State) : Host.Outcome State Fault Refusal :=
  .next <| match s.argAddress with
    | none => s.command (some .badRequest) s
    | some a =>
      s.command (firstRefusal [(!s.isBound a, .noBinding)])
        (s.writeBinding (fun row => row.any fun b => b.address == a) none)

/-! ## HOLD_OFF_END -/

/-- An entry's hold-off becomes none (R3). -/
def State.endHoldOff (a : Addr) (s : State) : State := s.modifyEntry a fun e => { e with holdOff := none }

/-- HOLD_OFF_END (R3), in every line state. An address outside 1..24 has no entry, so nothing ends (log 2). -/
def execHoldOffEnd (address : Nat) (s : State) : Host.Outcome State Fault Refusal :=
  .next <| s.unlessReset <| match Addr.ofNumber? address with
    | none => s
    | some a => s.endHoldOff a

end Sys2Proof.Machine
end

