-- ==== Sys2Proof/Machine/Census.lean ====
section
/-! DEFINITION. The census unit (chapter 3): runs, the ends of rounds, and CENSUS_START, CENSUS_STOP,
AUTO_CENSUS_EXPIRY. -/

namespace Sys2Proof.Machine

/-- A run is active while the census state is RUNNING or STOPPING (R53). -/
def State.runActive (s : State) : Bool := s.censusState != .idle

/-- A run starts (R54, R72): RUNNING, counts 0, yield clear, DISMISS owed as FRESH, the auto-census timer stopped. -/
def State.startRun (fresh : Bool) (s : State) : State :=
  { s with censusState := .running, claims := 0, failures := 0, yield := false, dismissOwed := fresh, round := none,
           autoTimer := none }

/-- The census unit is idle: no run, nothing owed, and the auto-census timer restarts (R53, R70, R71). -/
def State.closeRun (s : State) : State :=
  { s with censusState := .idle, dismissOwed := false, yield := false, round := none }.restartAutoTimer

/-- A run ends (R53, R70): the CENSUS END record is raised, CAUSE.CENSUS is set, the census unit is idle. -/
def State.endRun (outcome : RunOutcome) (u : UnitNumber) (s : State) : State :=
  ((s.raise { address := none, unit := u, data := .censusEnd outcome s.claims }).setCause .census).closeRun

/-- The run, if active, ends with LINE (R66, R67). -/
def State.endRunLine (s : State) : State := if s.runActive then s.endRun .line 0 else s

/-- The run ends with an outcome of its round, or with STOPPED and unit number 0 where it is STOPPING (R65). -/
def State.roundEndsRun (outcome : RunOutcome) (u : UnitNumber) (s : State) : State :=
  if s.censusState = .stopping then s.endRun .stopped 0 else s.endRun outcome u

/-- A round or DISMISS has ended and its count is made: a draining line ends the run with LINE (R66; log 10), a
STOPPING run ends with STOPPED (R65), a third consecutive failure with FAILED_ROUNDS (R63); otherwise the yield is
set and the run goes on (R55). -/
def State.afterRound (s : State) : State :=
  if s.lineState = .draining then s.endRun .line 0
  else if s.censusState = .stopping then s.endRun .stopped 0
  else if Config.failedRounds ≤ s.failures then s.endRun .failedRounds 0
  else { s with yield := true, round := none }

/-- A failed round or an exhausted DISMISS: the consecutive-failure count is incremented (R56, R60, R62). -/
def State.failRound (s : State) : State := { s with failures := s.failures + 1 }.afterRound

/-- The run's DISMISS was sent whole (R56). -/
def State.dismissSent (s : State) : State := { s with dismissOwed := false, failures := 0 }.afterRound

/-- The round's CLAIM was accepted (R62): the failure count is set to 0, but a round that a disable has interrupted
leaves it as it was (R66; log 27). -/
def State.roundSucceeds (s : State) : State :=
  { s.claimAccepted with failures := if s.lineState = LineState.draining then s.failures else 0 }.afterRound

/-- The end of the census unit's exchange: the run's DISMISS (R56), a CENSUS frame that no field follows (R57), or
the CLAIM (R62). -/
def State.censusEnd (e : ExchangeEnd) (s : State) : State :=
  match e with
  | .interrupted | .faulted => s.endRunLine
  | .sent => s.dismissSent
  | .exhausted _ => s.failRound
  | .ack _ => s.roundSucceeds
  | .refuse _ | .wait => s

/-! ## Commands and the timer -/

/-- CENSUS_START (R54). -/
def execCensusStart (s : State) : Host.Outcome State Fault Refusal :=
  let fresh := s.args[0].getLsbD 0
  .next <| s.command
    (firstRefusal
      [ (s.lineState == .off || s.lineState == .draining, .lineOff),
        (s.lineState == .fault || s.lineState == .recovering, .lineFault),
        (s.runActive, .censusRunning),
        (fresh && s.rosterCount != 0, .rosterNotEmpty) ])
    (s.startRun fresh)

/-- What a taken CENSUS STOP does by where the run stands (R64). -/
def State.stopRun (s : State) : State :=
  match s.censusState, s.round with
  | .running, none => s.endRun .stopped 0
  | .running, some _ => { s with censusState := .stopping }
  | .stopping, _ | .idle, _ => s

/-- CENSUS_STOP (R64). -/
def execCensusStop (s : State) : Host.Outcome State Fault Refusal :=
  .next <| s.command (firstRefusal [(!s.runActive, .censusIdle)]) s.stopRun

/-- The auto-census timer counts: line IDLE or BUSY, no run, no CLEAR (R71). -/
def State.autoCounting (s : State) : Bool :=
  (s.lineState == .idle || s.lineState == .busy) && !s.runActive && !s.clearing

/-- AUTO_CENSUS_EXPIRY (R72): a run without FRESH starts; RESULT, RESULTARG and CAUSE are not changed. A timer that
is stopped or holds does not expire (R71; log 2). -/
def execAutoCensusExpiry (s : State) : Host.Outcome State Fault Refusal :=
  .next <| s.unlessReset <| if s.autoCounting && s.autoTimer.isSome then s.startRun false else s

end Sys2Proof.Machine
end

