-- ==== Sys2Proof/Machine/Dispatcher.lean ====
section
/-! DEFINITION. The dispatcher (chapter 6): tickets, SUBMIT, readiness, and the end of a request exchange. -/

namespace Sys2Proof.Machine

/-! ## Tickets and SUBMIT -/

/-- The ticket of a request record (R116); event records hold none. -/
def Record.ticket? : Record → Option Byte
  | .request r => some r.ticket
  | .event _ => none

/-- A ticket is live while its request is in the queue or its record is unretired in the ring (R116). -/
def State.ticketLive (s : State) (t : Byte) : Bool :=
  s.queue.any (fun r => r.ticket == t) || s.ring.any (fun r => r.ticket? == some t)

/-- The first ticket from the counter on, wrapping from 255 to 0, that no live request holds (R116). At most 32 are
live, so one of the first 33 is free; with all 256 live the counter's own value would be given (log 21). -/
def State.nextTicket (s : State) : Byte :=
  (((List.range 256).map fun k => s.ticketCounter + BitVec.ofNat 8 k).find? fun t => !s.ticketLive t).getD
    s.ticketCounter

/-- The kind, address and length checks of SUBMIT's step 4 (R114). -/
def State.stagedBad (s : State) : Bool :=
  let kind := RequestKind.ofCode? s.staging[0]
  kind.isNone || 24 < s.stagedAddress || (kind == some .read && s.stagedAddress == 0) ||
    Config.payloadLimit < s.stagedLength

/-- Steps 5 to 7 of SUBMIT for address 1..24 (R114): none for the all-call, which has no entry. -/
def State.stagedEntryRefusal (s : State) : Option ResultCode :=
  match Addr.ofNumber? s.stagedAddress with
  | none => none
  | some a =>
    let e := s.entry a
    firstRefusal
      [ (e.state != .active && e.state != .pending && e.state != .negotiating, .noNode),
        (aboveLimit e.terms s.stagedLength, .tooLong),
        (outsideRange e.objects s.staging[2], .outOfRange) ]

/-- The checks of SUBMIT from step 2 on, in their order (R114). -/
def State.submitRefusal (s : State) : Option ResultCode :=
  match firstRefusal
    [ (s.lineState == .fault || s.lineState == .recovering, .lineFault),
      (Config.queueLimit ≤ s.queue.length, .queueFull),
      (s.stagedBad, .badRequest) ] with
  | some r => some r
  | none => s.stagedEntryRefusal

/-- The effects of a taken SUBMIT (R115, R116): a ticket is allocated and the request appended to the queue. -/
def State.submitRequest (s : State) : State :=
  match RequestKind.ofCode? s.staging[0] with
  | none => s
  | some kind =>
    { s with queue := s.queue ++ [s.stagedRequest s.nextTicket kind], ticketCounter := s.nextTicket + 1 }

/-- SUBMIT (R114, R115); RESULTARG receives the ticket. -/
def execSubmit (s : State) : Host.Outcome State Fault Refusal :=
  .next <| s.command s.submitRefusal s.submitRequest s.nextTicket

/-! ## Readiness and start -/

/-- A request behind `older` is ready (R119). -/
def State.requestReady (s : State) (older : List Request) (r : Request) : Bool :=
  r.verdict.isNone && r.phase != .onLine &&
  (match r.address with
   | some a =>
     (s.entry a).state == .active && !(s.entry a).inHoldOff && older.all fun q => q.address != some a
   | none => older.isEmpty) &&
  older.all (fun q => q.address != none) &&
  (r.phase != .unstarted || s.occupancy < Config.ringSlots)

/-- The oldest ready request, and the queue with its phase ON-LINE (R121); `older` is the queue's part before it. -/
def State.startFirst (s : State) (older : List Request) : List Request → Option (Request × List Request)
  | [] => none
  | r :: rest =>
    if s.requestReady older r then some (r, { r with phase := .onLine } :: rest)
    else (s.startFirst (older ++ [r]) rest).map fun w => (w.1, r :: w.2)

/-- DISPATCH is ready when at least one request is ready (R119). -/
def State.dispatchReady (s : State) : Bool := (s.startFirst [] s.queue).isSome

/-! ## The end of a request exchange -/

/-- The ON-LINE request ends: its record is posted through its reservation and it leaves the queue (R131, R141). -/
def State.completeRequest (r : Request) (result : Completion) (reason : BitVec 4) (payload : List Byte)
    (s : State) : State :=
  (s.dropRequest Request.isOnLine).post (.request (r.record result reason payload))

/-- The ON-LINE request becomes HELD, keeping its reservation (R118, R126, R128); `r` carries its wait count. -/
def State.holdRequest (r : Request) (s : State) : State :=
  s.modifyRequest Request.isOnLine fun _ => { r with phase := .held }

/-- The entry of a request's address is RELEASING (R17). -/
def State.requestReleasing (s : State) (r : Request) : Bool :=
  match r.address with
  | none => false
  | some a => (s.entry a).state == .releasing

/-- An end that would leave the request HELD (R126, R128): an aborted request is recorded ABORTED (R136, R137), one
of a RELEASING entry RELEASED (R17). -/
def State.holdOrEnd (r : Request) (s : State) : State :=
  if r.abortRequested then s.completeRequest r .aborted 0 []
  else if s.requestReleasing r then s.completeRequest r .released 0 []
  else s.holdRequest r

/-- One WAIT more is counted for a request; at 15 the count stays (R117, R126). -/
def Request.waited (r : Request) : Request := { r with waits := min Config.nibbleMax (r.waits + 1) }

/-- An accepted WAIT to a request (R126): at the wait limit it ends NODE_BUSY, below it the request is held. -/
def State.waitRequest (r : Request) (s : State) : State :=
  if s.waitLimit.toNat ≤ r.waited.waits then s.completeRequest r.waited .nodeBusy 0 [] else s.holdOrEnd r.waited

/-- One miss for the entry of a request whose exchange was exhausted, but none for the all-call (R124) and none for an
entry that is RELEASING (R17, R127). -/
def State.missFor (r : Request) (s : State) : State :=
  match r.address with
  | none => s
  | some a => if (s.entry a).state = .releasing then s else s.addMiss a

/-- The result of an exhausted exchange (R45). -/
def exhaustedResult (outOfStep : Bool) : Completion := if outOfStep then .outOfStep else .noAnswer

/-- The end of the ON-LINE request's exchange (R123 to R129, R136). -/
def State.requestEnd (e : ExchangeEnd) (s : State) : State :=
  match s.onLine? with
  | none => s
  | some r =>
    match e with
    | .ack payload => s.completeRequest r .done 0 payload
    | .sent => s.completeRequest r .done 0 []
    | .refuse reason => s.completeRequest r .refused reason []
    | .wait => s.waitRequest r
    | .exhausted outOfStep => (s.completeRequest r (exhaustedResult outOfStep) 0 []).missFor r
    | .interrupted => s.holdOrEnd r
    | .faulted => s.completeRequest r .lineFault 0 []

end Sys2Proof.Machine
end

