-- ==== Sys2Proof/Machine/Negotiation.lean ====
section
/-! DEFINITION. The negotiation unit (chapter 4): judging node pages, protocol errors, resolution and failure, the
end of a PAGE exchange, and COMMIT_OFFER. -/

namespace Sys2Proof.Machine

/-- A negotiation fails (R6, R89): the entry becomes REFUSED, REFUSED is raised with the reason, NODE_REFUSED
verdicts are given, the negotiation ends. -/
def State.failNegotiation (n : Negotiation) (reason : RefusalReason) (s : State) : State :=
  let s1 := s.modifyEntry n.address fun e => { e with state := .refused, due := false }
  ((s1.raiseAt n.address (.refused reason)).giveAddressVerdicts n.address .nodeRefused).endNegotiation

/-- A protocol error (R82): the negotiation restarts, or fails with PROTOCOL at restart count 2. -/
def State.protocolError (n : Negotiation) (s : State) : State :=
  if n.restarts < Config.restartLimit then
    { s.modifyEntry n.address fun e => { e with pages := [] } with
      negotiation := some { n with restarts := n.restarts + 1, next := 0, waits := 0 } }
  else s.failNegotiation n .protocol

/-- The check of a request against new terms and a new object range (R90). -/
def termVerdict (a : Addr) (terms : Terms) (objects : Option ObjectRange) (r : Request) : Option Completion :=
  if r.address ≠ some a then none
  else if aboveLimit (some terms) r.length then some .tooLong
  else if outsideRange objects r.object then some .outOfRange
  else none

/-- The entry after a resolution (R2, R88). -/
def Entry.resolved (e : Entry) (terms : Terms) (d : Described) : Entry :=
  { e with state := .active, terms := some terms, deviceClass := d.deviceClass, objects := d.objects }

/-- Resolution (R87, R88, R90): the entry becomes ACTIVE with the terms of both BASE pages, JOINED is raised, the
address's requests are checked, the negotiation ends; with no poll class in common it fails with NO_POLL_CLASS. -/
def State.resolveNegotiation (n : Negotiation) (s : State) : State :=
  let pages := (s.entry n.address).pages
  match resolveTerms (pages.headD 0) (s.active.word 0) with
  | none => s.failNegotiation n .noPollClass
  | some terms =>
    let d := interpretPages { deviceClass := none, objects := none } pages
    let s1 := s.modifyEntry n.address fun e => e.resolved terms d
    let s2 := s1.raiseAt n.address (.joined terms d.deviceClass)
    (s2.giveVerdicts (termVerdict n.address terms d.objects)).endNegotiation

/-- A kept page: appended to the entry's page list unless it is NULL (R80). -/
def keepPage (pages : List PageWord) (w : PageWord) : List PageWord := if pageIsNull w then pages else pages ++ [w]

/-- A further PAGE exchange is due after the node page at index i (R81). -/
def Offer.furtherDue (o : Offer) (i : Nat) (w : PageWord) : Bool := o.more i || pageMore w || o.binding i

/-- A node page has been kept (R80, R81): the terms are resolved, the negotiation fails at index 16, or the next
index is due. -/
def State.pageKept (n : Negotiation) (w : PageWord) (s : State) : State :=
  let s1 := s.modifyEntry n.address fun e => { e with pages := keepPage e.pages w }
  if !s.active.furtherDue n.next w then s1.resolveNegotiation n
  else if n.next + 1 = Config.pageIndexLimit then s1.failNegotiation n .pagesOverflow
  else { s1 with negotiation := some { n with next := n.next + 1, waits := 0 } }

/-- The judgement of a node page in the order of R80. -/
def State.judgePage (n : Negotiation) (w : PageWord) (s : State) : State :=
  if pageKind w = .invalid then s.protocolError n
  else if (n.next == 0) != (pageKind w == .base) then s.protocolError n
  else if 1 ≤ n.next && s.active.binding (n.next - 1) && !pageAgree w then s.failNegotiation n .notAgreed
  else if !pageIsNull w && Config.pageLimit ≤ (s.entry n.address).pages.length then
    s.failNegotiation n .pagesOverflow
  else s.pageKept n w

/-- An accepted WAIT to a PAGE (R83): the wait count rises; at the wait limit it is a protocol error. -/
def State.pageWait (n : Negotiation) (s : State) : State :=
  let n' := { n with waits := n.waits + 1 }
  if s.waitLimit.toNat ≤ n'.waits then s.protocolError n' else { s with negotiation := some n' }

/-- The end of a PAGE exchange (R79, R84, R85). A PAGE whose negotiation a RELEASE has abandoned is discarded (R17,
R86). A draining line abandons the negotiation whatever the end (R85). -/
def State.pageEnd (a : Addr) (e : ExchangeEnd) (s : State) : State :=
  match s.negotiation with
  | none => s
  | some n =>
    if n.address ≠ a then s
    else if s.lineState = .draining then s.abandonNegotiation
    else match e with
      | .ack payload => s.judgePage n (wordOfBytes (payload.getD 0 0) (payload.getD 1 0))
      | .refuse _ => s.protocolError n
      | .wait => s.pageWait n
      | .exhausted _ => (s.enterLost a).endNegotiation
      | .interrupted | .faulted => s.abandonNegotiation
      | .sent => s

/-! ## COMMIT_OFFER -/

/-- The effect of a taken COMMIT OFFER (R93): pending behind a negotiation in progress, otherwise copied at once. -/
def State.commitOffer (s : State) : State :=
  if s.negotiation.isSome then { s with commitPending := true }
  else { s with active := s.shadow }.setCause .commit

/-- COMMIT_OFFER (R92, R93). -/
def execCommitOffer (s : State) : Host.Outcome State Fault Refusal :=
  .next <| s.command
    (firstRefusal [(s.commitPending, .commitPending), (!s.shadow.valid, .offerInvalid)]) s.commitOffer

end Sys2Proof.Machine
end

