-- ==== Sys2Proof/Machine/Sweep.lean ====
section
/-! DEFINITION. The sweep unit (chapter 5): ticks, the end of a POLL, and SWEEP_TICK, SWEEPIVL_WRITE,
MISSLIM_WRITE. -/

namespace Sys2Proof.Machine

/-! ## Ticks -/

/-- The tick timer counts while the line is IDLE, BUSY or DRAINING (R98). -/
def State.tickCounting (s : State) : Bool :=
  s.lineState == .idle || s.lineState == .busy || s.lineState == .draining

/-- Whether a tick with counter value t marks an entry due (R98): ACTIVE by its poll class, LOST on every 16th. An
ACTIVE entry has terms (R88); one without would not be marked. -/
def Entry.marked (t : Nat) (a : Addr) (e : Entry) : Bool :=
  match e.state, e.terms with
  | .active, some terms => (t + a.number) % terms.pollClass.ticks == 0
  | .lost, _ => (t + a.number) % Config.probeSpacing == 0
  | _, _ => false

/-- A sweep tick (R98, R99): the counter is incremented, due entries are marked, the timer restarts. -/
def State.tick (s : State) : State :=
  let t := s.tickCounter + 1
  { s.mapEntries (fun a e => { e with due := e.due || e.marked t.toNat a }) with
    tickCounter := t, tickTimer := s.fullTick }

/-- SWEEP_TICK (R98). In OFF, FAULT and RECOVERING the timer holds, so no tick falls (log 2). -/
def execSweepTick (s : State) : Host.Outcome State Fault Refusal :=
  .next <| s.unlessReset <| if s.tickCounting then s.tick else s

/-! ## The end of a POLL -/

/-- A probe of a LOST entry was accepted (R7, R110): ACTIVE with terms, otherwise PENDING at the FIFO tail; BACK is
raised. -/
def State.probeReturn (a : Addr) (s : State) : State :=
  (if (s.entry a).terms.isSome then s.modifyEntry a fun e => { e with state := .active }
   else s.enterPending a).raiseAt a .back

/-- The condition byte of a poll answer (R103). -/
def State.applyCondition (a : Addr) (c : Condition) (s : State) : State :=
  if (s.entry a).condition = c then s
  else (s.modifyEntry a fun e => { e with condition := c }).raiseAt a (.condition c)

/-- An ATTENTION event is raised: REPORTED when it posts at once, HELD when it waits (R104, R150). -/
def State.raiseAttention (a : Addr) (code : Byte) (s : State) : State :=
  (s.raiseAt a (.attention code)).modifyEntry a fun e =>
    { e with attention := if s.roomNow then .reported else .held }

/-- The attention byte of a poll answer (R104). -/
def State.applyAttention (a : Addr) (code : Byte) (s : State) : State :=
  let e := s.entry a
  if code ≠ 0 ∧ e.terms.any (fun t => t.attention) ∧ e.attention = .none then s.raiseAttention a code else s

/-- An accepted acknowledge sets the attention state to NONE (R102 step 4). -/
def State.applyAcknowledge (a : Addr) (acknowledged : Bool) (s : State) : State :=
  if acknowledged then s.modifyEntry a fun e => { e with attention := .none } else s

/-- An accepted ACK to a POLL, in the order of R102. -/
def State.pollAnswer (a : Addr) (acknowledged : Bool) (code : Byte) (c : Condition) (s : State) : State :=
  let s1 := s.modifyEntry a fun e => { e with due := false }
  let s2 := if (s.entry a).state = .lost then s1.probeReturn a else s1
  ((s2.applyAcknowledge a acknowledged).applyCondition a c).applyAttention a code

/-- A failed poll (R105): the due flag is cleared, and an entry that is not LOST counts a miss. -/
def State.failedPoll (a : Addr) (s : State) : State :=
  let s1 := s.modifyEntry a fun e => { e with due := false }
  if (s.entry a).state = .lost then s1 else s1.addMiss a

/-- The end of a POLL exchange (R102, R105, R106). On a draining line any end but an accepted ACK leaves the poll owed
(R111, R162; log 24). For an entry that a RELEASE has made RELEASING the answer is discarded (R17). -/
def State.pollEnd (a : Addr) (acknowledged : Bool) (e : ExchangeEnd) (s : State) : State :=
  if (s.entry a).state = .releasing then s
  else match e with
    | .ack payload =>
      match Condition.ofCode? (payload.getD 1 0) with
      | some c => s.pollAnswer a acknowledged (payload.getD 0 0) c
      | none => s
    | .refuse _ | .exhausted _ => if s.lineState = .draining then s else s.failedPoll a
    | .wait | .sent | .interrupted | .faulted => s

/-! ## Register writes -/

/-- A value clamped into a range (spec/00 Clamped writes). -/
def clamp (low high : Byte) (v : Byte) : Byte := if v < low then low else if high < v then high else v

/-- SWEEPIVL is written: 0 is stored as 1, and the tick timer restarts from the full new interval (R97). -/
def State.writeSweepInterval (v : Byte) (s : State) : State :=
  let s1 := { s with sweepInterval := clamp 1 255 v }
  { s1 with tickTimer := s1.fullTick }

/-- SWEEPIVL_WRITE (R97). -/
def execSweepivlWrite (value : Byte) (s : State) : Host.Outcome State Fault Refusal :=
  .next <| s.unlessReset <| s.writeSweepInterval value

/-- An entry under a new miss limit (R109): an ACTIVE entry at or above it is brought to the limit - 1. -/
def Entry.underLimit (limit : Nat) (e : Entry) : Entry :=
  if e.state = .active ∧ limit ≤ e.misses then { e with misses := limit - 1 } else e

/-- MISSLIM is written, clamped into 1..15, and brings every ACTIVE entry below it (R109). -/
def State.writeMissLimit (v : Byte) (s : State) : State :=
  let limit := clamp 1 15 v
  { s.mapEntries (fun _ e => e.underLimit limit.toNat) with missLimit := limit }

/-- MISSLIM_WRITE (R109). -/
def execMisslimWrite (value : Byte) (s : State) : Host.Outcome State Fault Refusal :=
  .next <| s.unlessReset <| s.writeMissLimit value

end Sys2Proof.Machine
end

