-- ==== Sys2Proof/Machine/Sources.lean ====
section
/-! DEFINITION. When each source is ready for the line (R18, R55, R78, R79, R100, R119), as R49 gathers it. -/

namespace Sys2Proof.Machine

/-- The lowest-addressed entry that is RELEASING and not in hold-off (R18). -/
def State.releaseChoice (s : State) : Option Addr := s.findEntry? fun e => e.state == .releasing && !e.inHoldOff

/-- RELEASE is ready (R18). -/
def State.releaseReady (s : State) : Bool := s.releaseChoice.isSome

/-- CENSUS is ready: RUNNING, no round on the line, the yield clear (R55). -/
def State.censusReady (s : State) : Bool := s.censusState == .running && s.round.isNone && !s.yield

/-- The address NEGOTIATE would send its next PAGE to: the negotiation in progress (R79), or the FIFO head where a
negotiation can start (R78), its entry not in hold-off. -/
def State.negotiateChoice (s : State) : Option Addr :=
  match s.negotiation, s.fifo with
  | some n, _ => if (s.entry n.address).inHoldOff then none else some n.address
  | none, head :: _ => if s.commitPending || (s.entry head).inHoldOff then none else some head
  | none, [] => none

/-- NEGOTIATE is ready (R49, R78, R79). -/
def State.negotiateReady (s : State) : Bool := s.negotiateChoice.isSome

/-- The addresses in the order of the sweep's search: from the one after the pointer to 24, then from 1 up to the
pointer (R96, R100). -/
def sweepOrder (pointer : Fin 25) : List Addr :=
  (List.range 24).map fun k => ⟨(pointer.val + k) % 24, Nat.mod_lt _ (by decide)⟩

/-- The entry the sweep would poll: the first in its search that is due and not in hold-off (R100). -/
def State.sweepChoice (s : State) : Option Addr :=
  (sweepOrder s.sweepPointer).find? fun a => (s.entry a).due && !(s.entry a).inHoldOff

/-- SWEEP is ready (R100). -/
def State.sweepReady (s : State) : Bool := s.sweepChoice.isSome

/-- A source other than CENSUS is ready (R55). -/
def State.otherReady (s : State) : Bool :=
  s.releaseReady || s.negotiateReady || s.sweepReady || s.dispatchReady

/-- The yield is cleared where the line is IDLE and no other source is ready (R55; log 13). -/
def State.settleYield (s : State) : State :=
  if s.lineState = .idle ∧ s.yield ∧ !s.otherReady then { s with yield := false } else s

end Sys2Proof.Machine
end

