-- ==== Sys2Proof/Machine/Engine.lean ====
section
/-! DEFINITION. The line engine (chapters 2 and 8): lead-ins and attempts, accepted answers, the ends of exchanges,
line faults, the CLEAR's emptying, and the line events of an exchange: LINE_CHECK_CLEARED, CLEAR_WAIT_EXPIRY,
CONTENTION, CLOCK_FAULT, COMMAND_SENT, REPLY_WINDOW_EXPIRY, RESPONSE_FRAME, RETRY_GAP_END, FIELD_END,
RECOVERY_SUCCESS, RECOVERY_TIMEOUT. -/

namespace Sys2Proof.Machine

/-! ## Attempts -/

/-- Attempts allowed for an exchange that takes the retry limit: 1 + RETRYLIM (R37). -/
def State.attemptsAllowed (s : State) : Nat := 1 + s.retryLimit.toNat

/-- The ON-LINE request's attempts used rise with each lead-in of its exchange; at 15 they stay (R117, R122). -/
def State.countRequestAttempt (s : State) : State :=
  s.modifyRequest Request.isOnLine fun q => { q with attempts := min Config.nibbleMax (q.attempts + 1) }

/-- The toggle an attempt of a frame carries: that of its entry at that moment, and 0 for the all-call (R34, R35, R41). -/
def State.toggleFor (s : State) (f : Frame) : Bool :=
  match f.addressed with
  | some a => (s.entry a).toggle
  | none => f.toggle

/-- The exchange at a command lead-in (R34, R36, R37, R41): one attempt more is used, it carries the toggle the entry
holds, which the frame keeps from the first attempt, and a CLAIM's first attempt takes the retry limit in force. -/
def State.exchangeAtLeadIn (s : State) (x : Exchange) : Exchange :=
  { x with
    phase := .command
    used := x.used + 1
    allowed := if x.frame.kind = .claim ∧ x.used = 0 then s.attemptsAllowed else x.allowed
    frame := if x.used = 0 then { x.frame with toggle := s.toggleFor x.frame } else x.frame
    sentToggle := s.toggleFor x.frame }

/-- The frame that the latest attempt put on the line (R34, R41). -/
def Exchange.sentFrame (x : Exchange) : Frame := { x.frame with toggle := x.sentToggle }

/-- A command lead-in (R26, R36): the attempt begins, and LINERATE comes into force (R25). -/
def State.leadIn (x : Exchange) (s : State) : State :=
  let s1 := { s with exchange := some (s.exchangeAtLeadIn x), lineRateInForce := s.lineRate }
  if x.source = .dispatch then s1.countRequestAttempt else s1

/-- The LINE CHECK before a lead-in (R164): recessive, the lead-in is made at once; dominant, the clear-wait begins. -/
def State.lineCheck (x : Exchange) (mda : Level) (s : State) : State :=
  match mda with
  | .recessive => s.leadIn x
  | .dominant => { s with exchange := some { x with phase := .lineCheck } }

/-! ## The CLEAR's emptying and end -/

/-- The emptying stage of a CLEAR (R172), with the copy of a pending commit (R94). -/
def State.emptyAll (s : State) : State :=
  { s.endNegotiation with
    roster := .replicate 24 Entry.empty, fifo := [], queue := [], ticketCounter := 0, ring := [],
    stores := .replicate 24 Store.empty, censusSlot := none, sweepPointer := 0, passOver := 0 }

/-- The emptying stage and the end of a CLEAR (R172): the clearing flag is cleared, CAUSE.CLEARED is set, the
auto-census timer restarts. -/
def State.finishClear (s : State) : State :=
  ({ s.emptyAll with clearing := false }.setCause .cleared).restartAutoTimer

/-! ## The end of an exchange -/

/-- The end of the exchange is handed to its source (section 2.6). -/
def State.handEnd (x : Exchange) (e : ExchangeEnd) (s : State) : State :=
  match x.source, x.frame.address with
  | .release, some a => s.releaseEnd a e
  | .negotiate, some a => s.pageEnd a e
  | .sweep, some a => s.pollEnd a x.frame.ackFlag e
  | .census, _ => s.censusEnd e
  | .dispatch, _ => s.requestEnd e
  | .clearDismiss, _ | .release, none | .negotiate, none | .sweep, none => s

/-- The line after an exchange that did not fault (R48, R161): BUSY becomes IDLE, DRAINING becomes OFF with
CAUSE.DRAINED. -/
def State.lineFreed (s : State) : State :=
  match s.lineState with
  | .busy => { s with lineState := .idle }.settleYield
  | .draining => { s with lineState := .off }.setCause .drained
  | .off | .idle | .fault | .recovering => s

/-- The drain of a CLEAR is done (R171): an IDLE line waits for the CLEAR's DISMISS, any other goes to the emptying
stage at once. -/
def State.drained (s : State) : State := if s.lineState = .idle then s else s.finishClear

/-- The current exchange ends, other than faulted (R43 to R46, R48): the source applies the end before the line is
free; an end marked for discard is not handed over (R171); the end of the CLEAR's DISMISS leads to the emptying
stage (R171). -/
def State.endExchange (e : ExchangeEnd) (s : State) : State :=
  match s.exchange with
  | none => s
  | some x =>
    let s1 := { s with exchange := none }
    if x.source = .clearDismiss then s1.lineFreed.finishClear
    else if x.discard then s1.lineFreed.drained
    else (s1.handEnd x e).lineFreed

/-! ## Line faults -/

/-- The work of every source that waits for the line when the line is lost to a fault (R166): an active run ends with
LINE, a negotiation in progress is abandoned, also that of an entry whose rejoin CLAIM the fault ends (R12; log 25); due
flags, requests and RELEASING entries are kept. -/
def State.loseLine (s : State) : State := s.endRunLine.abandonNegotiation

/-- A fault found while an exchange is current (R47, R165, R166): the exchange ends faulted and is handed to its
source, or discarded under a CLEAR (R171); waiting work is treated; the line enters FAULT. -/
def State.lineFault (kind : FaultKind) (s : State) : State :=
  match s.exchange with
  | none => s
  | some x =>
    let s1 := { s with exchange := none }
    let s2 := if x.discard then s1 else s1.handEnd x .faulted
    let s3 := { s2.loseLine with lineState := .fault, faultKind := kind }.setCause .fault
    if x.discard || x.source == .clearDismiss then s3.finishClear else s3

/-- A failed recovery check (R168): the line returns to FAULT with the kind found; only CAUSE.FAULT results. -/
def State.recoveryFails (kind : FaultKind) (s : State) : State :=
  { s with lineState := .fault, faultKind := kind }.setCause .fault

/-! ## Attempts that fail and answers that are accepted -/

/-- An attempt fails (R41, R45, R46): under an interruption the exchange ends interrupted, with attempts left a retry
gap begins, otherwise the attempts are exhausted with the result R45 gives. -/
def State.attemptFails (x : Exchange) (reason : Failure) (s : State) : State :=
  let x' := { x with lastFailure := some reason }
  let s1 := { s with exchange := some x' }
  if x.interruptTaken then s1.endExchange .interrupted
  else if x.used < x.allowed then { s with exchange := some { x' with phase := .retryGap } }
  else s1.endExchange (.exhausted (reason == .sequence))

/-- An accepted ACK or REFUSE leaves the miss count: a REFUSE to a probe of a LOST entry (R107), a REFUSE to a POLL on
a draining line (R162; log 24), and any answer to a POLL of an entry that has become RELEASING (R17; log 9). -/
def keepsMisses (line : LineState) (kind : FrameKind) (answer : Answer) (e : Entry) : Bool :=
  match answer with
  | .refuse _ => kind == .poll && (line == .draining || e.state == .lost || e.state == .releasing)
  | .ack _ => kind == .poll && e.state == .releasing
  | .wait => true

/-- What an accepted answer sets in the entry (R3, R34): ACK and REFUSE flip the toggle and set the miss count to 0,
WAIT starts the hold-off configured at that moment. -/
def Entry.answered (line : LineState) (kind : FrameKind) (answer : Answer) (holdOffTime : Byte) (e : Entry) : Entry :=
  match answer with
  | .ack _ | .refuse _ =>
    { e with toggle := !e.toggle, misses := if keepsMisses line kind answer e then e.misses else 0 }
  | .wait => { e with holdOff := some holdOffTime.toNat }

/-- The entry facts of an accepted answer, for an addressed frame (R34, R35). -/
def State.noteAnswer (f : Frame) (answer : Answer) (s : State) : State :=
  match f.addressed with
  | none => s
  | some a => s.modifyEntry a fun e => e.answered s.lineState f.kind answer s.holdOffTime

/-- The confirm byte of an ACK to a confirmed WRITE differs from the check byte over the frame's payload (R42). -/
def confirmFails (x : Exchange) (answer : Answer) : Bool :=
  match x.shape, answer with
  | .write true, .ack payload => payload.getD 0 0 != checkByte x.frame.payload
  | _, _ => false

/-- An answer is accepted (R34, R38, R42, R43): the entry's facts are set, then the confirm byte is compared, then
the exchange ends accepted. -/
def State.acceptAnswer (x : Exchange) (answer : Answer) (s : State) : State :=
  let s1 := s.noteAnswer x.frame answer
  if confirmFails x answer then s1.attemptFails x .confirm else s1.endExchange answer.toEnd

/-! ## Events of the exchange on the line -/

/-- The current exchange, where its phase and shape let an event act on it. -/
def State.exchangeIn (s : State) (p : Exchange → Bool) : Option Exchange :=
  match s.exchange with
  | some x => if p x then some x else none
  | none => none

/-- The phases from the command lead-in to the response tail, which no event of the table separates (log 7). -/
def Phase.inAttempt : Phase → Bool
  | .command | .reply | .response => true
  | .lineCheck | .retryGap | .field => false

/-- LINE_CHECK_CLEARED (R164): the clear-wait ends and the lead-in is made. -/
def execLineCheckCleared (s : State) : Host.Outcome State Fault Refusal :=
  .next <| s.unlessReset <| match s.exchangeIn fun x => x.phase == .lineCheck with
    | some x => s.leadIn x
    | none => s

/-- CLEAR_WAIT_EXPIRY (R164, R166): a STUCK fault is found. -/
def execClearWaitExpiry (s : State) : Host.Outcome State Fault Refusal :=
  .next <| s.unlessReset <| match s.exchangeIn fun x => x.phase == .lineCheck with
    | some _ => s.lineFault .stuck
    | none => s

/-- CONTENTION (R39): the frame is cut off and the attempt fails with reason contention. -/
def execContention (s : State) : Host.Outcome State Fault Refusal :=
  .next <| s.unlessReset <| match s.exchangeIn fun x => x.phase == .command with
    | some x => s.attemptFails x .contention
    | none => s

/-- The phases in which the engine clocks MCK: all but the clear-wait (R164, R165). -/
def Phase.clocks : Phase → Bool
  | .lineCheck => false
  | .command | .reply | .response | .retryGap | .field => true

/-- CLOCK_FAULT (R165, R166, R168): found while the engine clocks MCK for an exchange or for the recovery check. -/
def execClockFault (s : State) : Host.Outcome State Fault Refusal :=
  .next <| s.unlessReset <|
    if s.lineState = .recovering then s.recoveryFails .clock
    else match s.exchangeIn fun x => x.phase.clocks with
      | some _ => s.lineFault .clock
      | none => s

/-- The tail of a command frame passes without contention (R26, R36, R44): a frame that expects no answer ends its
exchange sent; one that expects an answer opens its reply window, and a CENSUS frame its field (log 7). -/
def State.commandTail (x : Exchange) (s : State) : State :=
  match x.shape with
  | .noAnswer => s.endExchange .sent
  | .field => { s with exchange := some { x with phase := .field } }
  | .claim | .page _ | .poll | .write _ | .read _ | .release => { s with exchange := some { x with phase := .reply } }

/-- COMMAND_SENT (R44). -/
def execCommandSent (s : State) : Host.Outcome State Fault Refusal :=
  .next <| s.unlessReset <| match s.exchangeIn fun x => x.phase == .command with
    | some x => s.commandTail x
    | none => s

/-- REPLY_WINDOW_EXPIRY (R38 test 2): the attempt fails with reason no answer. -/
def execReplyWindowExpiry (s : State) : Host.Outcome State Fault Refusal :=
  .next <| s.unlessReset <|
    match s.exchangeIn fun x => (x.phase == .command || x.phase == .reply) && x.shape.expectsAnswer with
    | some x => s.attemptFails x .noAnswer
    | none => s

/-- RESPONSE_FRAME (R38): the response is judged by tests 3 to 5, then accepted or the attempt fails. -/
def execResponseFrame (wire : List Byte) (tail : Level) (s : State) : Host.Outcome State Fault Refusal :=
  .next <| s.unlessReset <|
    match s.exchangeIn fun x => x.phase.inAttempt && x.shape.expectsAnswer with
    | none => s
    | some x =>
      match judgeResponse x.shape x.sentToggle wire tail with
      | .ok answer => s.acceptAnswer x answer
      | .error reason => s.attemptFails x reason

/-- RETRY_GAP_END (R41): the engine enters LINE CHECK for the next attempt of the same frame. -/
def execRetryGapEnd (mda : Level) (s : State) : Host.Outcome State Fault Refusal :=
  .next <| s.unlessReset <| match s.exchangeIn fun x => x.phase == .retryGap with
    | some x => s.lineCheck x mda
    | none => s

/-! ## The arbitration field -/

/-- A CLAIM naming a unit and an address (R30, R61): all-call, toggle 0, six bytes. -/
def claimFrame (u : UnitNumber) (a : Addr) : Frame :=
  { address := none, toggle := false, kind := .claim, ackFlag := false, payload := unitBytes u ++ [addressByte (some a)] }

/-- The CLAIM becomes the frame of the round's exchange, with its own attempts (R36, R61) and no last failure (the
model's choice, log 26). -/
def claimExchange (u : UnitNumber) (a : Addr) (allowed : Nat) (x : Exchange) : Exchange :=
  { x with frame := claimFrame u a, sentToggle := false, shape := .claim, allowed := allowed, used := 0,
           phase := .lineCheck, lastFailure := none }

/-- The round ends with its field: the census unit's state is brought up to date and the line is freed (R59, R60,
R61). -/
def State.closeField (after : State → State) (s : State) : State := (after { s with exchange := none }).lineFreed

/-- A field read whole in a round that goes on (R59 to R61): empty, garbled, or a winning unit number whose CLAIM is
made or for which no address is found. -/
def State.judgeField (x : Exchange) (u : UnitNumber) (check : Byte) (mda : Level) (s : State) : State :=
  if u = Config.allOnes then s.closeField fun t => t.roundEndsRun .complete 0
  else if check ≠ checkByte (unitBytes u) then s.closeField fun t => t.failRound
  else
    let (t, chosen) := s.assignAddress u
    match chosen with
    | none => t.closeField fun t => t.roundEndsRun .rosterFull u
    | some (a, rejoin) =>
      { t with round := some (.claim u a rejoin) }.lineCheck (claimExchange u a t.attemptsAllowed x) mda

/-- FIELD_END (R60). An interrupted round reads its field without assignment or CLAIM and ends interrupted (R46,
R66, R68). -/
def execFieldEnd (u : UnitNumber) (check : Byte) (mda : Level) (s : State) : Host.Outcome State Fault Refusal :=
  .next <| s.unlessReset <|
    match s.exchangeIn fun x => (x.phase == .command || x.phase == .field) && x.shape == .field with
    | none => s
    | some x => if x.interruptTaken then s.endExchange .interrupted else s.judgeField x u check mda

/-! ## The recovery check -/

/-- RECOVERY_SUCCESS (R168): the line becomes IDLE, CAUSE.RECOVERED is set, the last fault kind is kept. -/
def execRecoverySuccess (s : State) : Host.Outcome State Fault Refusal :=
  .next <| s.unlessReset <|
    if s.lineState = .recovering then { s with lineState := .idle }.setCause .recovered else s

/-- RECOVERY_TIMEOUT (R168): the line returns to FAULT with kind STUCK. -/
def execRecoveryTimeout (s : State) : Host.Outcome State Fault Refusal :=
  .next <| s.unlessReset <| if s.lineState = .recovering then s.recoveryFails .stuck else s

end Sys2Proof.Machine
end

