-- ==== Sys2Proof/Machine/Arbiter.lean ====
section
/-! DEFINITION. The line arbiter (R49 to R51) and the exchanges its grants form: LINE_GRANT, and the CLEAR's own
CLEAR_DISMISS (R171). -/

namespace Sys2Proof.Machine

/-- A frame to every node with no payload: CENSUS or DISMISS (R56, R57). -/
def allCallFrame (kind : FrameKind) : Frame :=
  { address := none, toggle := false, kind := kind, ackFlag := false, payload := [] }

/-- A frame addressed to an entry, with the entry's toggle (R34). -/
def State.addressedFrame (s : State) (a : Addr) (kind : FrameKind) (ackFlag : Bool) (payload : List Byte) : Frame :=
  { address := some a, toggle := (s.entry a).toggle, kind := kind, ackFlag := ackFlag, payload := payload }

/-- A new current exchange, before its first LINE CHECK (R36). -/
def newExchange (source : Source) (frame : Frame) (shape : AnswerShape) (allowed : Nat) : Exchange :=
  { source := source, frame := frame, sentToggle := frame.toggle, shape := shape, allowed := allowed, used := 0,
    phase := .lineCheck, lastFailure := none, interruptTaken := false, discard := false }

/-- The line becomes BUSY and the exchange makes its LINE CHECK (R48, R164). -/
def State.openExchange (x : Exchange) (mda : Level) (s : State) : State :=
  { s with lineState := .busy }.lineCheck x mda

/-! ## Grants -/

/-- A grant to RELEASE (R18). -/
def State.grantRelease (a : Addr) (mda : Level) (s : State) : State :=
  { s with yield := false }.openExchange
    (newExchange .release (s.addressedFrame a .release false []) .release s.attemptsAllowed) mda

/-- A grant to CENSUS (R56, R57): the run's DISMISS while it is owed, otherwise a round with its CENSUS frame. -/
def State.grantCensus (mda : Level) (s : State) : State :=
  if s.dismissOwed then
    { s with round := some .dismiss }.openExchange
      (newExchange .census (allCallFrame .dismiss) .noAnswer s.attemptsAllowed) mda
  else
    { s with round := some .field }.openExchange
      (newExchange .census (allCallFrame .census) .field s.attemptsAllowed) mda

/-- The pass-over count after a grant to NEGOTIATE or SWEEP (R50). -/
def State.passOverAfter (s : State) : Nat := if s.dispatchReady then s.passOver + 1 else s.passOver

/-- A negotiation starts from the FIFO head (R6, R78). -/
def State.startNegotiation (a : Addr) (s : State) : State :=
  { s.modifyEntry a fun e => { e with state := .negotiating, due := false, pages := [] } with
    fifo := s.fifo.tail, negotiation := some { address := a, next := 0, restarts := 0, waits := 0 } }

/-- The PAGE of the negotiation in progress (R76, R79): the coordinator page for the next index, then the index. -/
def State.pageExchange (n : Negotiation) (s : State) : Exchange :=
  newExchange .negotiate
    (s.addressedFrame n.address .page false (wordBytes (s.active.page n.next) ++ [BitVec.ofNat 8 n.next]))
    (.page n.next) s.attemptsAllowed

/-- A grant to NEGOTIATE (R50, R78, R79). -/
def State.grantNegotiate (mda : Level) (s : State) : State :=
  let s1 := { s with passOver := s.passOverAfter, yield := false }
  match s1.negotiation, s1.fifo with
  | some n, _ => s1.openExchange (s1.pageExchange n) mda
  | none, head :: _ =>
    let s2 := s1.startNegotiation head
    s2.openExchange (s2.pageExchange { address := head, next := 0, restarts := 0, waits := 0 }) mda
  | none, [] => s

/-- A grant to SWEEP (R100, R101): the pointer is set to the chosen address, and the acknowledge flag is set when the
entry's attention state is REPORTED. -/
def State.grantSweep (a : Addr) (mda : Level) (s : State) : State :=
  { s with passOver := s.passOverAfter, yield := false, sweepPointer := a.succ }.openExchange
    (newExchange .sweep (s.addressedFrame a .poll ((s.entry a).attention == AttentionState.reported) []) .poll s.attemptsAllowed) mda

/-- The payload of a request's frame (R122). -/
def Request.framePayload (r : Request) : List Byte :=
  match r.kind with
  | .write => r.object :: r.payload.toList.take r.length
  | .read => [r.object, BitVec.ofNat 8 r.length]

/-- The frame kind of a request (R122). -/
def Request.frameKind (r : Request) : FrameKind :=
  match r.kind with
  | .write => .write
  | .read => .read

/-- The answer a request's exchange expects (R122): none for a WRITE to the all-call; the confirm byte when the
entry's terms include confirm at the grant. -/
def State.requestShape (s : State) (r : Request) : AnswerShape :=
  match r.kind, r.address with
  | .write, none => .noAnswer
  | .write, some a => .write ((s.entry a).terms.any fun t => t.confirm)
  | .read, _ => .read r.length

/-- The frame of a request (R122): addressed with the entry's toggle, or all-call with toggle 0. -/
def State.requestFrame (s : State) (r : Request) : Frame :=
  match r.address with
  | some a => s.addressedFrame a r.frameKind false r.framePayload
  | none => { address := none, toggle := false, kind := r.frameKind, ackFlag := false, payload := r.framePayload }

/-- The exchange of a request (R122): 1 attempt with no-retry, otherwise 1 + the retry limit. -/
def State.requestExchange (s : State) (r : Request) : Exchange :=
  newExchange .dispatch (s.requestFrame r) (s.requestShape r) (if r.noRetry then 1 else s.attemptsAllowed)

/-- A grant to DISPATCH (R50, R121): the oldest ready request is ON-LINE, the pass-over count is 0. -/
def State.grantDispatch (mda : Level) (s : State) : State :=
  match s.startFirst [] s.queue with
  | none => s
  | some (r, queue) =>
    { s with passOver := 0, yield := false, queue := queue }.openExchange (s.requestExchange r) mda

/-- The source the arbiter would grant, by base order and pass-over count (R50). -/
def State.grantChoice (s : State) : Option Source :=
  if s.releaseReady then some .release
  else if s.censusReady then some .census
  else if s.dispatchReady && Config.passOverLimit ≤ s.passOver then some .dispatch
  else if s.negotiateReady then some .negotiate
  else if s.sweepReady then some .sweep
  else if s.dispatchReady then some .dispatch
  else none

/-- The arbiter's grant (R49, R50): in IDLE with no CLEAR in progress, to the source chosen; none where no source is
ready. -/
def State.grant (mda : Level) (s : State) : State :=
  let s1 := s.settleYield
  match s1.grantChoice with
  | some .release => match s1.releaseChoice with
    | some a => s1.grantRelease a mda
    | none => s
  | some .census => s1.grantCensus mda
  | some .negotiate => s1.grantNegotiate mda
  | some .sweep => match s1.sweepChoice with
    | some a => s1.grantSweep a mda
    | none => s
  | some .dispatch => s1.grantDispatch mda
  | some .clearDismiss | none => s

/-- LINE_GRANT (R49, R50). During a CLEAR, and in every line state but IDLE, no grant is made. -/
def execLineGrant (mda : Level) (s : State) : Host.Outcome State Fault Refusal :=
  .next <| s.unlessReset <| if s.lineState = .idle ∧ s.clearing = false then s.grant mda else s

/-- CLEAR_DISMISS (R171): with a CLEAR in progress and the line IDLE, the CLEAR's DISMISS takes the line. -/
def execClearDismiss (mda : Level) (s : State) : Host.Outcome State Fault Refusal :=
  .next <| s.unlessReset <|
    if s.lineState = .idle ∧ s.clearing = true then
      s.openExchange (newExchange .clearDismiss (allCallFrame .dismiss) .noAnswer s.attemptsAllowed) mda
    else s

end Sys2Proof.Machine
end

