-- ==== Sys2Proof/Machine/Line.lean ====
section
/-! DEFINITION. The commands that reach the exchange on the line: LINE_ENABLE, LINE_DISABLE, LINE_RECOVER, CLEAR
(chapter 8) and ABORT (section 6.8). -/

namespace Sys2Proof.Machine

/-- LINE_ENABLE (R159): an OFF line becomes IDLE; the last fault kind is kept. -/
def execLineEnable (s : State) : Host.Outcome State Fault Refusal :=
  .next <| s.command (firstRefusal [(s.lineState != .off, .wrongLineState)]) { s with lineState := .idle }

/-- LINE_RECOVER (R168): a FAULT line becomes RECOVERING and the recovery check begins. -/
def execLineRecover (s : State) : Host.Outcome State Fault Refusal :=
  .next <| s.command (firstRefusal [(s.lineState != .fault, .wrongLineState)]) { s with lineState := .recovering }

/-! ## Interrupting the exchange on the line -/

/-- The phases whose attempt or field runs to its completion after an interruption (R46). -/
def Phase.completes : Phase → Bool
  | .command | .reply | .response | .field => true
  | .lineCheck | .retryGap => false

/-- An interruption of the current exchange (R46): it is marked, and in RETRY GAP and LINE CHECK it ends interrupted at
once. -/
def State.interrupt (s : State) : State :=
  match s.exchange with
  | none => s
  | some x =>
    let s1 := { s with exchange := some { x with interruptTaken := true } }
    if x.phase.completes then s1 else s1.endExchange .interrupted

/-! ## LINE_DISABLE -/

/-- Whether the current exchange is a source's (R162). -/
def State.onLineOf (source : Source) (s : State) : Bool := s.exchange.any fun x => x.source == source

/-- A disable's effects on work that is not on the line (R85, R162): an active run ends with LINE, a negotiation in
progress is abandoned, also that of an entry whose rejoin CLAIM is on the line (R12; log 25). -/
def State.disableWaiting (s : State) : State :=
  let s1 := if s.onLineOf .census then s else s.endRunLine
  if s.onLineOf .negotiate then s1 else s1.abandonNegotiation

/-- The effects of a taken LINE DISABLE (R160 to R162). The work that waits is treated before the exchange that ends at once,
so that a run's CENSUS END precedes the RELEASED record of the request on the line (R17); the order of the two is the model's
choice (log 30). -/
def State.disableLine (s : State) : State :=
  let s1 := s.disableWaiting
  if s.lineState = .busy then { s1 with lineState := .draining }.interrupt
  else { s1 with lineState := .off }.setCause .drained

/-- LINE_DISABLE (R160). -/
def execLineDisable (s : State) : Host.Outcome State Fault Refusal :=
  .next <| s.command
    (firstRefusal
      [(s.lineState == .off || s.lineState == .draining || s.lineState == .recovering, .wrongLineState)])
    s.disableLine

/-! ## CLEAR -/

/-- A run ends at a CLEAR's first stage without a record (R68, R170). -/
def State.dropRun (s : State) : State :=
  { s with censusState := .idle, dismissOwed := false, claims := 0, failures := 0, yield := false, round := none }

/-- The exchange on the line is marked for discard (R170). -/
def State.markDiscard (s : State) : State :=
  { s with exchange := s.exchange.map fun x => { x with discard := true } }

/-- The effects of a taken CLEAR (R170, R171): the clearing flag is set and the run dropped; an exchange on the line is
interrupted and marked for discard; an IDLE line waits for the CLEAR's DISMISS; OFF, FAULT and RECOVERING go to the
emptying stage at once. -/
def State.clearTaken (s : State) : State :=
  let s1 := { s.dropRun with clearing := true }
  match s.lineState with
  | .busy | .draining => s1.markDiscard.interrupt
  | .idle => s1
  | .off | .fault | .recovering => s1.finishClear

/-- CLEAR (R170), taken in every line state. -/
def execClear (s : State) : Host.Outcome State Fault Refusal := .next <| s.command none s.clearTaken

/-! ## ABORT -/

/-- The abort-requested flag of the request that holds a ticket is set (R135). -/
def State.markAborted (ticket : Byte) (s : State) : State :=
  s.modifyRequest (Request.hasTicket ticket) fun q => { q with abortRequested := true }

/-- The effects of a taken ABORT on a request, by its phase (R135, R136). A request that was ON-LINE when a RELEASE of its
entry was taken has no verdict, so the ABORT is taken (R137; log 28). -/
def State.abortRequest (r : Request) (s : State) : State :=
  match r.phase with
  | .unstarted | .held => (s.markAborted r.ticket).giveVerdict r.ticket .aborted
  | .onLine => if r.abortRequested then s else (s.markAborted r.ticket).interrupt

/-- ABORT (R135, R191); the ticket is ARG0. -/
def execAbort (s : State) : Host.Outcome State Fault Refusal :=
  .next <| match s.request? s.args[0] with
    | none => s.command (some .noTicket) s
    | some r => s.command (firstRefusal [(r.verdict.isSome, .noTicket)]) (s.abortRequest r)

end Sys2Proof.Machine
end

