-- ==== Sys2Proof/Machine/Ring.lean ====
section
/-! DEFINITION. The completion ring's posting order and RETIRE (chapter 7). -/

namespace Sys2Proof.Machine

/-- An event waiting in a store, with the store after it has left (R153). -/
def Store.takeFirst (st : Store) : Option (EventRecord × Store) :=
  match st.status, st.condition, st.attention with
  | some e, _, _ => some (e, { st with status := none })
  | none, some e, _ => some (e, { st with condition := none })
  | none, none, some e => some (e, { st with attention := none })
  | none, none, none => none

/-- The posting of an ATTENTION record moves its entry's attention state to REPORTED (R154). -/
def State.attentionPosted (a : Addr) (e : EventRecord) (s : State) : State :=
  match e.data with
  | .attention _ => s.modifyEntry a fun entry => { entry with attention := .reported }
  | _ => s

/-- The first event of the pending-event stores, by address and then status, condition, attention, is posted
(R153). -/
def State.postFromStores (s : State) : List Addr → State
  | [] => s
  | a :: rest =>
    match (s.store a).takeFirst with
    | none => s.postFromStores rest
    | some (e, st) => ((s.setStore a st).post (.event e)).attentionPosted a e

/-- The first waiting item of the posting order is posted (R153): verdicts in queue order, the census slot, the
stores by address. -/
def State.postFirstWaiting (s : State) : State :=
  match s.queue.find? Request.verdictWaits with
  | some r =>
    (s.dropRequest Request.verdictWaits).post (.request (r.record (r.verdict.getD .aborted) 0 []))
  | none =>
    match s.censusSlot with
    | some e => { s with censusSlot := none }.post (.event e)
    | none => s.postFromStores Addr.all

/-- The effects of a taken RETIRE (R143): the head record is removed, and the first waiting item is posted into the
freed slot. -/
def State.retireHead (s : State) : State := { s with ring := s.ring.tail }.postFirstWaiting

/-- RETIRE (R143, R190). -/
def execRetire (s : State) : Host.Outcome State Fault Refusal :=
  .next <| s.command (firstRefusal [(s.ring.isEmpty, .ringEmpty)]) s.retireHead

end Sys2Proof.Machine
end

