-- ==== Sys2Proof/Machine/Rows.lean ====
section
/-! DEFINITION. The table rows of the window (R181) and their byte layouts (R193). -/

namespace Sys2Proof.Machine

/-! ## The ROSTER row -/

/-- The two bytes of a device class, 0xFFFF when absent (R193). -/
def classBytes : Option (BitVec 12) → List Byte
  | none => [0xFF, 0xFF]
  | some c => wordBytes (c.setWidth 16)

/-- The payload limit byte, 0 without terms (R193). -/
def limitByte : Option Terms → Byte
  | none => 0
  | some t => BitVec.ofNat 8 t.payloadLimit.bytes

/-- The poll class byte, 0 without terms (R193). -/
def pollByte : Option Terms → Byte
  | none => 0
  | some t => BitVec.ofNat 8 t.pollClass.ticks

/-- Byte 6 of a ROSTER row (R193). -/
def Entry.flagByte (e : Entry) : Byte :=
  flagBit 0 e.toggle ||| flagBit 1 e.terms.isSome ||| flagBit 2 (e.terms.any fun t => t.attention) |||
    flagBit 3 (e.terms.any fun t => t.confirm) ||| (e.attention.code <<< 4) ||| flagBit 6 e.inHoldOff |||
    flagBit 7 e.due

/-- The page words of an entry at their eight places, 0 beyond the page count (R193). -/
def Entry.pageBytes (e : Entry) : List Byte := (List.range 8).flatMap fun k => wordBytes (e.pages.getD k 0)

/-- The object range, 0 and 255 when absent (R193). -/
def rangeBytes : Option ObjectRange → List Byte
  | none => [0, 255]
  | some r => [r.lowest, r.highest]

/-- A ROSTER row, 32 bytes (R23, R193). -/
def Entry.row (e : Entry) : List Byte :=
  [e.state.code] ++ unitBytes e.unit ++
    [e.flagByte, e.condition.code, BitVec.ofNat 8 e.misses, limitByte e.terms, pollByte e.terms,
     BitVec.ofNat 8 e.pages.length] ++
    e.pageBytes ++ classBytes e.deviceClass ++ rangeBytes e.objects

/-! ## BINDING, QUEUE and RING rows -/

/-- A BINDING row, 7 bytes; an unused row is all 0 (R193). -/
def bindingRow : Option Binding → List Byte
  | none => List.replicate 7 0
  | some b => [1, addressByte (some b.address)] ++ unitBytes b.unit

/-- A QUEUE row, 8 bytes (R193). -/
def Request.row (r : Request) : List Byte :=
  [r.ticket, addressByte r.address, r.kind.code, r.object, BitVec.ofNat 8 r.length, r.phase.code,
   (match r.verdict with | none => 0xFF | some v => v.code), BitVec.ofNat 8 r.attempts]

/-- A list of bytes brought to a length, the bytes beyond it 0 (R193). -/
def padded (length : Nat) (bytes : List Byte) : List Byte := (List.range length).map fun k => bytes.getD k 0

/-- Byte 5 of a request record: attempts used, and abort-requested in bit 7 (R193). -/
def RequestRecord.attemptsByte (r : RequestRecord) : Byte := BitVec.ofNat 8 r.attempts ||| flagBit 7 r.abortRequested

/-- A request record, 24 bytes (R131, R193). -/
def RequestRecord.row (r : RequestRecord) : List Byte :=
  [0x01, addressByte r.address, r.ticket, r.result.code, r.reason.setWidth 8, r.attemptsByte,
   BitVec.ofNat 8 r.payload.length, BitVec.ofNat 8 r.waits] ++ padded 16 r.payload

/-- The data bytes of an event record, from byte 7 (R193). -/
def EventData.bytes : EventData → List Byte
  | .joined terms c =>
    [limitByte (some terms), pollByte (some terms), flagBit 0 terms.attention ||| flagBit 1 terms.confirm] ++ classBytes c
  | .refused reason => [reason.code]
  | .released answered => [if answered then 1 else 0]
  | .condition value => [value.code]
  | .attention code => [code]
  | .censusEnd outcome claims => [outcome.code, BitVec.ofNat 8 claims]
  | .lost | .back | .restarted => []

/-- An event record, 24 bytes (R145, R193). -/
def EventRecord.row (e : EventRecord) : List Byte :=
  [e.data.code, addressByte e.address] ++ unitBytes e.unit ++ padded 17 e.data.bytes

/-- A RING row, 24 bytes (R193). -/
def Record.row : Record → List Byte
  | .request r => r.row
  | .event e => e.row

/-! ## The tables -/

/-- The tables of the window (R181); `none` is table 0 and every TABSEL above 7. -/
inductive Table where
  | none | roster | binding | offerShadow | offerActive | staging | ring | queue
deriving DecidableEq, Repr

/-- The table a TABSEL value names (R181). -/
def tableOf (select : Byte) : Table :=
  match select.toNat with
  | 1 => .roster | 2 => .binding | 3 => .offerShadow | 4 => .offerActive | 5 => .staging | 6 => .ring | 7 => .queue
  | _ => .none

/-- The row length of a table (R181). -/
def Table.rowLength : Table → Nat
  | .none => 0 | .roster => 32 | .binding => 7 | .offerShadow => 25 | .offerActive => 25 | .staging => 21
  | .ring => 24 | .queue => 8

/-- The bytes of the row a table has at an index; a place with no row is a row of 0x00 (R181). -/
def State.tableRow (s : State) (table : Table) (index : Byte) : List Byte :=
  let blank := List.replicate table.rowLength 0
  match table with
  | .none => []
  | .roster => match Addr.ofNumber? index.toNat with
    | some a => (s.entry a).row
    | none => blank
  | .binding => if h : index.toNat < 8 then bindingRow s.bindings[index.toNat] else blank
  | .offerShadow => if index = 0 then s.shadow.toList else blank
  | .offerActive => if index = 0 then s.active.toList else blank
  | .staging => if index = 0 then s.staging.toList else blank
  | .ring => match s.ring with
    | head :: _ => head.row
    | [] => blank
  | .queue => match s.queue[index.toNat]? with
    | some r => if index.toNat < 16 then r.row else blank
    | none => blank

end Sys2Proof.Machine
end

