-- ==== Sys2Proof/Machine/Window.lean ====
section
/-! DEFINITION. The register window (chapter 9): the table window with TABSEL_WRITE, TABIDX_WRITE, TABDATA_READ and
TABDATA_WRITE, CAUSE_WRITE, ENABLE_WRITE, AUTOCENSUS_WRITE, and the value every register reads. -/

namespace Sys2Proof.Machine

/-! ## The table window -/

/-- A capture (R180): the row that TABSEL and TABIDX name is copied into the latch, the bytes beyond it become 0x00,
the pointer is set to 0 and the row's length becomes its end. -/
def State.capture (s : State) : State :=
  let table := tableOf s.tabsel
  let row := s.tableRow table s.tabidx
  { s with latch := tabulate 32 fun k => row.getD k.val 0, latchPointer := 0, latchEnd := table.rowLength }

/-- TABSEL_WRITE (R180). -/
def execTabselWrite (value : Byte) (s : State) : Host.Outcome State Fault Refusal :=
  .next <| s.unlessReset <| { s with tabsel := value }.capture

/-- TABIDX_WRITE (R180). -/
def execTabidxWrite (value : Byte) (s : State) : Host.Outcome State Fault Refusal :=
  .next <| s.unlessReset <| { s with tabidx := value }.capture

/-- The byte at the pointer, 0x00 at the end (R182). -/
def State.latchByte (s : State) : Byte :=
  if s.latchPointer < s.latchEnd then s.latch.toList.getD s.latchPointer 0 else 0

/-- The pointer advances by one while it stands below the end (R182, R183). -/
def State.advancePointer (s : State) : State :=
  if s.latchPointer < s.latchEnd then { s with latchPointer := s.latchPointer + 1 } else s

/-- TABDATA_READ (R182): the latch byte is returned and the pointer advances; while RESET# is asserted the read returns
0x00 and the pointer stays (R174). -/
def execTabdataRead (s : State) : Host.Outcome State Fault Refusal :=
  .next <| if s.resetAsserted then { s with readData := 0 } else { s.advancePointer with readData := s.latchByte }

/-- The table that is captured takes a write (R183): STAGING at index 0, and OFFER SHADOW at index 0 with no commit
pending. The captured row is the one that TABSEL and TABIDX name (log 12). -/
def State.writableTable (s : State) : Option Table :=
  if s.tabidx ≠ 0 then none
  else match tableOf s.tabsel with
    | .staging => some .staging
    | .offerShadow => if s.commitPending then none else some .offerShadow
    | .none | .roster | .binding | .offerActive | .ring | .queue => none

/-- A byte is stored at the pointer, into the captured row and into the latch, where the captured table takes it
(R183). -/
def State.storeByte (value : Byte) (s : State) : State :=
  match s.writableTable with
  | some .staging =>
    { s with staging := s.staging.setIfInBounds s.latchPointer value,
             latch := s.latch.setIfInBounds s.latchPointer value }
  | some .offerShadow =>
    { s with shadow := s.shadow.setIfInBounds s.latchPointer value,
             latch := s.latch.setIfInBounds s.latchPointer value }
  | some .none | some .roster | some .binding | some .offerActive | some .ring | some .queue | none => s

/-- The effect of a TABDATA write (R183); with the pointer at the end it changes nothing. -/
def State.writeTableByte (value : Byte) (s : State) : State :=
  if s.latchPointer < s.latchEnd then (s.storeByte value).advancePointer else s

/-- TABDATA_WRITE (R183). -/
def execTabdataWrite (value : Byte) (s : State) : Host.Outcome State Fault Refusal :=
  .next <| s.unlessReset <| s.writeTableByte value

/-! ## CAUSE, ENABLE and AUTOCENSUS -/

/-- CAUSE_WRITE (R185): each bit written as 1 is cleared. -/
def execCauseWrite (value : Byte) (s : State) : Host.Outcome State Fault Refusal :=
  .next <| s.unlessReset <| { s with cause := s.cause &&& ~~~value }

/-- ENABLE_WRITE (R186). -/
def execEnableWrite (value : Byte) (s : State) : Host.Outcome State Fault Refusal :=
  .next <| s.unlessReset <| { s with enable := value }

/-- AUTOCENSUS is written: the timer restarts from the full new period, or stops for 0 (R71). -/
def State.writeAutoCensus (value : Byte) (s : State) : State := { s with autoCensus := value }.restartAutoTimer

/-- AUTOCENSUS_WRITE (R71). -/
def execAutocensusWrite (value : Byte) (s : State) : Host.Outcome State Fault Refusal :=
  .next <| s.unlessReset <| s.writeAutoCensus value

/-! ## The other writable registers -/

/-- A write of a register that has no row of its own (R175, R177, R184): LINERATE, RETRYLIM, WAITLIM and HOLDOFF store
the clamped value, an ARG register the value; a write to a read-only register is ignored (R174). -/
def State.writePlain (register : Register) (value : Byte) (s : State) : State :=
  match register with
  | .linerate => { s with lineRate := clamp 0 5 value }
  | .retrylim => { s with retryLimit := clamp 0 7 value }
  | .waitlim => { s with waitLimit := clamp 1 15 value }
  | .holdoff => { s with holdOffTime := clamp 1 255 value }
  | .arg k => { s with args := s.args.set k.val value }
  | .part | .revision | .linestate | .activity | .cause | .enable | .command | .result | .resultarg | .tabsel | .tabidx
  | .tabdata | .queuecount | .ringcount | .rostercount | .sweepivl | .misslim | .autocensus | .tick | .reservations
  | .waiting | .nextticket => s

/-! ## Reads -/

/-- LINESTATE: the line state in bits 2-0, the last fault kind in bits 5-4 (R194). -/
def State.lineStateByte (s : State) : Byte := s.lineState.code ||| (s.faultKind.code <<< 4)

/-- ACTIVITY: census state, commit pending, clearing, negotiation in progress (R194). -/
def State.activityByte (s : State) : Byte :=
  s.censusState.code ||| flagBit 2 s.commitPending ||| flagBit 3 s.clearing ||| flagBit 4 s.negotiation.isSome

/-- The value a register holds (R175, R176, R194); COMMAND reads 0x00 and TABDATA the latch byte at the pointer
(R174). -/
def State.registerValue (s : State) : Register → Byte
  | .part => Config.part
  | .revision => Config.revision
  | .linestate => s.lineStateByte
  | .activity => s.activityByte
  | .cause => s.cause
  | .enable => s.enable
  | .command => 0
  | .result => s.result
  | .resultarg => s.resultArg
  | .arg k => s.args[k.val]
  | .tabsel => s.tabsel
  | .tabidx => s.tabidx
  | .tabdata => s.latchByte
  | .queuecount => BitVec.ofNat 8 s.queue.length
  | .ringcount => BitVec.ofNat 8 s.ring.length
  | .rostercount => BitVec.ofNat 8 s.rosterCount
  | .linerate => s.lineRate
  | .sweepivl => s.sweepInterval
  | .retrylim => s.retryLimit
  | .waitlim => s.waitLimit
  | .holdoff => s.holdOffTime
  | .misslim => s.missLimit
  | .autocensus => s.autoCensus
  | .tick => s.tickCounter
  | .reservations => BitVec.ofNat 8 s.reservations
  | .waiting => BitVec.ofNat 8 s.waiting
  | .nextticket => s.ticketCounter

/-- What a read cycle at an address drives on D0-D7 (R174). A read changes nothing but TABDATA's pointer, which is
the row TABDATA_READ. -/
def State.readRegister (s : State) (address : BitVec 5) : Byte := s.registerValue (registerAt address)

/-- The length of one slot in units of 100 ns, by the rate in force (R25). -/
def State.slotTime (s : State) : Nat :=
  match s.lineRateInForce.toNat with
  | 0 => 1000 | 1 => 400 | 2 => 200 | 3 => 100 | 4 => 50 | _ => 25

end Sys2Proof.Machine
end

