-- ==== Sys2Proof/Machine/Cycles.lean ====
section
/-! DEFINITION. Write cycles (R174) and the command register (R177): BAD_COMMAND and REGISTER_WRITE. Each acts as the
row that its code or its register names (log 14). -/

namespace Sys2Proof.Machine

/-- A code that is not in the command table gives BAD_COMMAND, a CLEAR in progress included; nothing else changes
(R177 step 1). -/
def State.badCode (s : State) : State := s.answer .badCommand 0

/-- A write of COMMAND (R177): a known code takes its command (R178). -/
def State.writeCommand (code : Byte) (s : State) : Host.Outcome State Fault Refusal :=
  match commandOfCode code with
  | .lineEnable => execLineEnable s
  | .lineDisable => execLineDisable s
  | .lineRecover => execLineRecover s
  | .censusStart => execCensusStart s
  | .censusStop => execCensusStop s
  | .submit => execSubmit s
  | .abort => execAbort s
  | .retire => execRetire s
  | .release => execRelease s
  | .renegotiate => execRenegotiate s
  | .bind => execBind s
  | .unbind => execUnbind s
  | .commitOffer => execCommitOffer s
  | .clear => execClear s
  | _ => .next (s.unlessReset s.badCode)

/-- BAD_COMMAND (R177): a write of COMMAND whose code the command table does not list. A term that carries a listed
code is that command's write and takes it. -/
def execBadCommand (code : Byte) (s : State) : Host.Outcome State Fault Refusal := s.writeCommand code

/-- A write cycle to a register (R174): the registers with a row of their own act as that row, the others store. -/
def State.writeRegister (register : Register) (value : Byte) (s : State) : Host.Outcome State Fault Refusal :=
  match register with
  | .command => s.writeCommand value
  | .tabsel => execTabselWrite value s
  | .tabidx => execTabidxWrite value s
  | .tabdata => execTabdataWrite value s
  | .cause => execCauseWrite value s
  | .enable => execEnableWrite value s
  | .sweepivl => execSweepivlWrite value s
  | .misslim => execMisslimWrite value s
  | .autocensus => execAutocensusWrite value s
  | .part | .revision | .linestate | .activity | .result | .resultarg | .arg _ | .queuecount | .ringcount
  | .rostercount | .linerate | .retrylim | .waitlim | .holdoff | .tick | .reservations | .waiting | .nextticket =>
    .next (s.unlessReset (s.writePlain register value))

/-- REGISTER_WRITE (R174, R184). -/
def execRegisterWrite (address : BitVec 5) (value : Byte) (s : State) : Host.Outcome State Fault Refusal :=
  s.writeRegister (registerAt address) value

end Sys2Proof.Machine
end

