-- ==== Sys2Proof/Machine/Reset.lean ====
section
/-! DEFINITION. Hardware reset (R173, R187): HARDWARE_RESET and RESET_RELEASE. -/

namespace Sys2Proof.Machine

/-- RESET# is asserted: every piece of state takes its value after hardware reset, and the part does nothing until it
is released (R173, R174). The queue of commands waiting outside the part is no state of the part (log 4). -/
def State.hardwareReset (s : State) : State := { State.reset with resetAsserted := true, pending := s.pending }

/-- HARDWARE_RESET (R173), in every state. -/
def execHardwareReset (s : State) : Host.Outcome State Fault Refusal := .next s.hardwareReset

/-- RESET_RELEASE (R173, R187): the part stands at its values after hardware reset and takes commands again. -/
def execResetRelease (s : State) : Host.Outcome State Fault Refusal := .next { s with resetAsserted := false }

end Sys2Proof.Machine
end

