-- ==== Sys2Proof/Machine/Dispatch.lean ====
section
/-! DEFINITION. The meaning of every command and event, arm by arm. -/

namespace Sys2Proof.Machine

def exec (i : Instr) (s : State) : Host.Outcome State Fault Refusal :=
  match i with
  | .lineEnable => Sys2Proof.Machine.execLineEnable s
  | .lineDisable => Sys2Proof.Machine.execLineDisable s
  | .lineRecover => Sys2Proof.Machine.execLineRecover s
  | .censusStart => Sys2Proof.Machine.execCensusStart s
  | .censusStop => Sys2Proof.Machine.execCensusStop s
  | .submit => Sys2Proof.Machine.execSubmit s
  | .abort => Sys2Proof.Machine.execAbort s
  | .retire => Sys2Proof.Machine.execRetire s
  | .release => Sys2Proof.Machine.execRelease s
  | .renegotiate => Sys2Proof.Machine.execRenegotiate s
  | .bind => Sys2Proof.Machine.execBind s
  | .unbind => Sys2Proof.Machine.execUnbind s
  | .commitOffer => Sys2Proof.Machine.execCommitOffer s
  | .clear => Sys2Proof.Machine.execClear s
  | .badCommand code => Sys2Proof.Machine.execBadCommand code s
  | .tabselWrite value => Sys2Proof.Machine.execTabselWrite value s
  | .tabidxWrite value => Sys2Proof.Machine.execTabidxWrite value s
  | .tabdataRead => Sys2Proof.Machine.execTabdataRead s
  | .tabdataWrite value => Sys2Proof.Machine.execTabdataWrite value s
  | .causeWrite value => Sys2Proof.Machine.execCauseWrite value s
  | .enableWrite value => Sys2Proof.Machine.execEnableWrite value s
  | .sweepivlWrite value => Sys2Proof.Machine.execSweepivlWrite value s
  | .misslimWrite value => Sys2Proof.Machine.execMisslimWrite value s
  | .autocensusWrite value => Sys2Proof.Machine.execAutocensusWrite value s
  | .registerWrite address value => Sys2Proof.Machine.execRegisterWrite address value s
  | .hardwareReset => Sys2Proof.Machine.execHardwareReset s
  | .sweepTick => Sys2Proof.Machine.execSweepTick s
  | .autoCensusExpiry => Sys2Proof.Machine.execAutoCensusExpiry s
  | .holdOffEnd address => Sys2Proof.Machine.execHoldOffEnd address s
  | .lineGrant mda => Sys2Proof.Machine.execLineGrant mda s
  | .clearDismiss mda => Sys2Proof.Machine.execClearDismiss mda s
  | .lineCheckCleared => Sys2Proof.Machine.execLineCheckCleared s
  | .clearWaitExpiry => Sys2Proof.Machine.execClearWaitExpiry s
  | .contention => Sys2Proof.Machine.execContention s
  | .clockFault => Sys2Proof.Machine.execClockFault s
  | .commandSent => Sys2Proof.Machine.execCommandSent s
  | .replyWindowExpiry => Sys2Proof.Machine.execReplyWindowExpiry s
  | .responseFrame wire tail => Sys2Proof.Machine.execResponseFrame wire tail s
  | .retryGapEnd mda => Sys2Proof.Machine.execRetryGapEnd mda s
  | .fieldEnd unit check mda => Sys2Proof.Machine.execFieldEnd unit check mda s
  | .recoverySuccess => Sys2Proof.Machine.execRecoverySuccess s
  | .recoveryTimeout => Sys2Proof.Machine.execRecoveryTimeout s
  | .resetRelease => Sys2Proof.Machine.execResetRelease s

end Sys2Proof.Machine
end

