-- ==== Sys2Proof/Machine/Timers.lean ====
section
/-! DEFINITION. Half a millisecond passing with nothing else to take (log 1): the hold-offs (R3), the tick timer (R98)
and the auto-census timer (R71, R72). -/

namespace Sys2Proof.Machine

/-- A timer after one unit: what remains, and none where it has reached 0. -/
def countDown (n : Nat) : Option Nat := if n ≤ 1 then none else some (n - 1)

/-- One hold-off unit passes for every entry, in every line state (R3). -/
def State.elapseHoldOffs (s : State) : State := s.mapEntries fun _ e => { e with holdOff := e.holdOff.bind countDown }

/-- The tick timer counts while the line is IDLE, BUSY or DRAINING; at 0 a sweep tick falls (R98). -/
def State.elapseTick (s : State) : State :=
  if s.tickCounting then
    match countDown s.tickTimer with
    | some n => { s with tickTimer := n }
    | none => s.tick
  else s

/-- The auto-census timer counts while it may; at 0 a run without FRESH starts (R71, R72). -/
def State.elapseAuto (s : State) : State :=
  match s.autoTimer with
  | none => s
  | some n =>
    if s.autoCounting then
      match countDown n with
      | some m => { s with autoTimer := some m }
      | none => s.startRun false
    else s

/-- Half a millisecond passes; while RESET# is asserted no timer counts (R173). -/
def State.elapse (s : State) : State := s.unlessReset s.elapseHoldOffs.elapseTick.elapseAuto

end Sys2Proof.Machine
end

