-- ==== Sys2Proof/Machine/Node.lean ====
section
/-! DEFINITION. What the coordinator relies on at a node (section 2.3, R31 to R35, R58): the reference of the bytes and
levels that RESPONSE_FRAME and FIELD_END carry. A node is outside the part, so no node stands in State (log 17). -/

namespace Sys2Proof.Machine

/-- A node (R31 to R33): its unit number, its line address if it holds one, the toggle of the last frame it executed,
the answer it then gave, and the code of its standing attention request, 0 when none stands. -/
structure Node where
  unit : UnitNumber
  address : Option Addr
  lastToggle : Bool
  lastAnswer : Answer
  attention : Byte
deriving DecidableEq, Repr

/-! ## Response frames -/

/-- The status byte of an answer with a toggle echo (R192). -/
def Answer.statusByte (echo : Bool) : Answer → Byte
  | .ack _ => flagBit 7 echo ||| 1
  | .wait => flagBit 7 echo ||| 2
  | .refuse reason => flagBit 7 echo ||| (reason.setWidth 8 <<< 2) ||| 3

/-- The payload of an answer; WAIT and REFUSE carry length 0 (R30). -/
def Answer.payload : Answer → List Byte
  | .ack payload => payload
  | .wait | .refuse _ => []

/-- The bytes of a response frame before its check byte (R28). -/
def Answer.body (echo : Bool) (answer : Answer) : List Byte :=
  answer.statusByte echo :: BitVec.ofNat 8 answer.payload.length :: answer.payload

/-- A response frame on the line (R28, R192): status, length, payload, check byte. -/
def Answer.wire (echo : Bool) (answer : Answer) : List Byte :=
  answer.body echo ++ [checkByte (answer.body echo)]

/-- An answer a node may give to a frame of this shape (R28, R30): an ACK inside the shape with at most 16 payload
bytes, a WAIT, or a REFUSE with a reason 1..15. -/
def Answer.suits (shape : AnswerShape) : Answer → Bool
  | .ack payload => payload.length ≤ Config.payloadLimit && shape.acceptsAck payload
  | .wait => shape.acceptsWaitRefuse
  | .refuse reason => reason != 0 && shape.acceptsWaitRefuse

/-! ## Receiving frames -/

/-- What a node chooses when it executes an addressed frame: the answer it gives, and for a POLL the condition it
reports and an attention request it raises after an acknowledge (R33). -/
structure Choice where
  answer : Answer
  condition : Byte
  raised : Byte
deriving DecidableEq, Repr

/-- The attention request that stands after a POLL is executed (R33): an acknowledge clears the request, and a new one
may be raised. -/
def Node.afterPoll (n : Node) (acknowledge : Bool) (raised : Byte) : Node :=
  let standing := if acknowledge then 0 else n.attention
  { n with attention := if standing = 0 then raised else standing }

/-- A new frame is executed (R33, R34): its toggle and the answer are kept; a RELEASE executed with ACK forgets the
address (R32). -/
def Node.executed (n : Node) (f : Frame) (answer : Answer) : Node :=
  { n with
    lastToggle := f.toggle
    lastAnswer := answer
    address := match f.kind, answer with
      | .release, .ack _ => none
      | _, _ => n.address }

/-- A frame addressed to the node (R33, R34): a repeat is answered with the last answer and not executed; a WAIT leaves
the node as it was; an ACK or a REFUSE counts as executed, and the ACK of a POLL reports the attention code and the
condition. -/
def Node.receiveAddressed (n : Node) (f : Frame) (choice : Choice) : Node × Option Answer :=
  if f.toggle = n.lastToggle then (n, some n.lastAnswer)
  else match choice.answer with
    | .wait => (n, some .wait)
    | .refuse reason => (n.executed f (.refuse reason), some (.refuse reason))
    | .ack payload =>
      if f.kind = .poll then
        let polled := n.afterPoll f.ackFlag choice.raised
        let answer := Answer.ack [polled.attention, choice.condition]
        (polled.executed f answer, some answer)
      else (n.executed f (.ack payload), some (.ack payload))

/-- The unit number and the line address that a CLAIM's payload names (R30). -/
def claimNames (payload : List Byte) : UnitNumber × Option Addr :=
  (unitOfBytes (payload.getD 0 0) (payload.getD 1 0) (payload.getD 2 0) (payload.getD 3 0) (payload.getD 4 0),
    Addr.ofNumber? (payload.getD 5 0).toNat)

/-- The payload lengths a kind of command frame may have (R30); a node discards a frame of any other (R31). -/
def Frame.lengthSuits (f : Frame) : Bool :=
  match f.kind with
  | .census | .dismiss | .poll | .release => f.payload.length == 0
  | .claim => f.payload.length == 6
  | .page => f.payload.length == 3
  | .read => f.payload.length == 2
  | .write => 1 ≤ f.payload.length && f.payload.length ≤ 17

/-- A command frame closed by its tail, with a correct check byte and a suitable length, reaches a node (R31, R32, R35): the node after it and its answer, if it answers.
A CLAIM naming the node's unit gives it the address and sets its last toggle to 1; DISMISS makes it unnumbered; an
all-call WRITE, a CENSUS and everything addressed elsewhere draw no answer. -/
def Node.receive (n : Node) (f : Frame) (choice : Choice) : Node × Option Answer :=
  if !f.lengthSuits then (n, none)
  else match f.kind with
  | .claim =>
    let (u, a) := claimNames f.payload
    if u = n.unit ∧ a.isSome then
      ({ n with address := a, lastToggle := true, lastAnswer := .ack [] }, some (.ack []))
    else (n, none)
  | .dismiss => ({ n with address := none }, none)
  | .census => (n, none)
  | .page | .poll | .write | .read | .release =>
    if f.address.isSome ∧ f.address = n.address then n.receiveAddressed f choice else (n, none)

/-! ## The arbitration field -/

/-- The wired-AND of the bits that several nodes drive in one slot: dominant, bit 0, where any drives 0 (R24, R58). -/
def wiredAnd (bits : List Bool) : Bool := bits.all id

/-- One arbitration slot (R58 steps 1 and 2): every unit number still in drives its bit at `position`; one that
released MDA and reads it dominant drops out. The result is the slot's level and who stays in. -/
def arbitrationSlot (position : Nat) (units : List UnitNumber) : Bool × List UnitNumber :=
  let level := wiredAnd (units.map fun u => u.getLsbD position)
  (level, units.filter fun u => u.getLsbD position == level)

/-- The slots from `count` - 1 down to 0: the unit number's bits read, as a number, and who drove them all. -/
def arbitrate : Nat → List UnitNumber → Nat × List UnitNumber
  | 0, units => (0, units)
  | count + 1, units =>
    let (level, rest) := arbitrationSlot count units
    let (low, winners) := arbitrate count rest
    ((if level then 2 ^ count else 0) + low, winners)

/-- The 40 arbitration slots for the unnumbered nodes that take part (R58); with none, every slot reads 1 (R59). -/
def fieldUnit (units : List UnitNumber) : UnitNumber := BitVec.ofNat 40 (arbitrate 40 units).1

/-- The 8 check slots (R58 step 3): the winner drives the check byte over its unit number; with no winner they read
all ones. -/
def fieldCheck (units : List UnitNumber) : Byte :=
  match (arbitrate 40 units).2 with
  | [] => 0xFF
  | u :: _ => checkByte (unitBytes u)

end Sys2Proof.Machine
end

