-- ==== Sys2Proof/Safety.lean ====
section
/-! DEFINITION. The laws the spec states of the coordinator's state, as the terms that statements use, and what it is
for a command to be taken. -/

namespace Sys2Proof.Machine

/-! ## When commands are taken -/

/-- The part takes commands and events: RESET# is released (R173). -/
abbrev State.Running (s : State) : Prop := s.resetAsserted = false

/-- The part is ready to judge a host command: RESET# is released and no CLEAR is in progress (R170, R173). -/
abbrev State.Open (s : State) : Prop := s.resetAsserted = false ∧ s.clearing = false

/-- A command is refused with a result code: RESULT and RESULTARG alone change (R177). -/
abbrev Refuses (c : Instr) (s : State) (code : Byte) : Prop :=
  exec c s = .next { s with result := code, resultArg := 0 }

/-- The arbiter makes grants: RESET# is released, no CLEAR is in progress and the line is IDLE (R49). -/
abbrev State.Granting (s : State) : Prop := s.Open ∧ s.lineState = .idle

/-- The exchange on a BUSY line that no interruption has reached (R46, R170). -/
abbrev State.Carries (s : State) (x : Exchange) : Prop :=
  s.Open ∧ s.lineState = .busy ∧ s.exchange = some x ∧ x.interruptTaken = false ∧ x.discard = false

/-- An event that fails the attempt on the line, with the reason of the failure (R38, R39): contention in the command
frame, a reply window that passes with no lead-in, and a response that is not accepted. The last two are taken from COMMAND
too (log 7). -/
def Exchange.FailsBy (x : Exchange) (c : Instr) (reason : Failure) : Prop :=
  (c = .contention ∧ reason = .contention ∧ x.phase = .command) ∨
  (x.shape.expectsAnswer = true ∧ (x.phase = .command ∨ x.phase = .reply) ∧
    ((c = .replyWindowExpiry ∧ reason = .noAnswer) ∨
      ∃ wire tail, c = .responseFrame wire tail ∧ judgeResponse x.shape x.sentToggle wire tail = .error reason))

/-- The node page in the payload of an ACK to a PAGE has the positions that its kind does not use 0 (R192); a payload of
another kind has no such positions. -/
def unusedAreZero (shape : AnswerShape) (payload : List Byte) : Bool :=
  match shape with
  | .page _ =>
    let w := wordOfBytes (payload.getD 0 0) (payload.getD 1 0)
    w &&& pageUnused w == 0
  | _ => true

/-! ## Verdicts -/

/-- What the verdicts of one cause do, in queue order, with `room` ring slots free (R132): the record of a HELD request
is posted through its reservation; that of an UNSTARTED request is posted while a slot is free, and otherwise the request
stays with the verdict stored. The requests posted with their verdicts, and those left. -/
def splitVerdicts (verdict : Request → Option Completion) :
    Nat → List Request → List (Request × Completion) × List Request
  | _, [] => ([], [])
  | room, r :: rest =>
    match verdict r with
    | none =>
      let (posted, left) := splitVerdicts verdict room rest
      (posted, r :: left)
    | some v =>
      if r.phase = .held ∨ 0 < room then
        let (posted, left) := splitVerdicts verdict (if r.phase = .held then room else room - 1) rest
        ((r, v) :: posted, left)
      else
        let (posted, left) := splitVerdicts verdict room rest
        (posted, { r with verdict := some v } :: left)

/-- A cause gives verdicts only to requests that have none and are not ON-LINE (R132). -/
def openTo (which : Request → Option Completion) (r : Request) : Option Completion :=
  if r.verdict = none ∧ r.phase ≠ .onLine then which r else none

/-- The ring slots a new item may take: none while anything waits (R132, R147). -/
def State.freeSlots (s : State) : Nat := if s.waiting = 0 then 16 - s.occupancy else 0

/-- The requests a cause reaches that hold no reservation. -/
def unstartedOf (verdict : Request → Option Completion) (queue : List Request) : Nat :=
  queue.countP fun r => (verdict r).isSome && r.phase == .unstarted

/-- The state in which one cause has given its verdicts (R132, R155, R156): records are posted in queue order and
CAUSE.RING is set where there is one; CAUSE.BACKLOG is set where the first item begins to wait. -/
def State.withVerdictsBy (which : Request → Option Completion) (s : State) : State :=
  let split := splitVerdicts (openTo which) s.freeSlots s.queue
  { s with
    queue := split.2
    ring := s.ring ++ split.1.map fun p => .request {
      address := p.1.address, ticket := p.1.ticket, result := p.2, reason := 0,
      attempts := p.1.attempts, abortRequested := p.1.abortRequested, waits := p.1.waits, payload := [] }
    cause := s.cause ||| (if split.1 = [] then 0 else 0x01) |||
      (if s.waiting = 0 ∧ s.freeSlots < unstartedOf (openTo which) s.queue then 0x80 else 0) }

/-- The state in which one cause has given one verdict to the requests for an address (R133). -/
def State.withVerdicts (a : Addr) (verdict : Completion) (s : State) : State :=
  s.withVerdictsBy fun r => if r.address = some a then some verdict else none

/-! ## The work that a disable or a fault ends, and the ends of rounds -/

/-- The state in which the census run has ended (R53, R70, R71, R147, R151, R155, R156): the census unit is idle and the
auto-census timer restarts; the CENSUS END record posts while a slot is free, and otherwise it takes the census slot. -/
def State.withRunEnded (outcome : RunOutcome) (u : UnitNumber) (s : State) : State :=
  let record : EventRecord := { address := none, unit := u, data := .censusEnd outcome s.claims }
  { s with
    censusState := .idle, dismissOwed := false, yield := false, round := none, autoTimer := autoPeriod s.autoCensus
    ring := if 0 < s.freeSlots then s.ring ++ [.event record] else s.ring
    censusSlot := if 0 < s.freeSlots then s.censusSlot else some record
    cause := s.cause ||| (if 0 < s.freeSlots then 0x01 else if s.waiting = 0 then 0x80 else 0) ||| 0x02 }

/-- The state in which a run, if one was active, has ended with LINE (R66, R67). -/
def State.withRunLost (s : State) : State := if s.censusState = .idle then s else s.withRunEnded .line 0

/-- The state in which a negotiation in progress, if there was one, has been abandoned (R6, R77, R85, R94): its entry is
PENDING at the FIFO head with its page list cleared, and a commit that waited behind it is copied. -/
def State.withNegotiationAbandoned (s : State) : State :=
  match s.negotiation with
  | none => s
  | some n => { s with
      negotiation := none
      roster := s.roster.set n.address.val { s.entry n.address with state := .pending, due := false, pages := [] }
      fifo := if n.address ∈ s.fifo then s.fifo else n.address :: s.fifo
      active := if s.commitPending then s.shadow else s.active
      commitPending := false
      cause := s.cause ||| if s.commitPending then 0x04 else 0 }

/-- The state in which a pending commit, if there was one, has been copied at the end of a negotiation (R91, R94). -/
def State.withCommitCopied (s : State) : State := { s with
  active := if s.commitPending then s.shadow else s.active
  commitPending := false
  cause := s.cause ||| if s.commitPending then 0x04 else 0 }

/-- The line has been switched off (R160, R161): OFF with no exchange, and CAUSE.DRAINED. -/
def State.switchedOff (s : State) : State :=
  { s with lineState := .off, exchange := none, cause := s.cause ||| 0x10 }

/-- The end of an exchange whose effects stand in the first state frees the line and leaves the second (R48, R55, R161): a
BUSY line is IDLE, and the yield stands only while another source is ready (log 13); a DRAINING line is OFF. -/
def State.LineFreed (s t : State) : Prop :=
  (s.lineState = .busy → t = { s with lineState := .idle, exchange := none, yield := s.yield && s.otherReady }) ∧
  (s.lineState = .draining → t = s.switchedOff)

/-- The end of a round, or of the run's DISMISS, whose own effects stand in the first state, leaves the second (R55, R63,
R65, R66): on a DRAINING line the run ends with LINE, a STOPPING run ends with STOPPED, a run with three failures with
FAILED_ROUNDS, and any other goes on with the yield set. That a STOPPING run on a DRAINING line ends with LINE also where
its CLAIM is accepted or its DISMISS is sent, an end that R65 gives STOPPED, is the model's choice (log 10). -/
def State.RoundOver (s t : State) : Prop :=
  State.LineFreed (
    if s.lineState = .draining then s.withRunEnded .line 0
    else if s.censusState = .stopping then s.withRunEnded .stopped 0
    else if 3 ≤ s.failures then s.withRunEnded .failedRounds 0
    else { s with yield := true, round := none }) t

/-! ## The laws -/

/-- An exchange is on the line exactly in BUSY and DRAINING (R48). -/
abbrev State.LineLaw (s : State) : Prop :=
  s.exchange.isSome = true ↔ s.lineState = .busy ∨ s.lineState = .draining

/-- The queue holds at most 16 requests (R117). -/
abbrev State.QueueLaw (s : State) : Prop := s.queue.length ≤ 16

/-- Records plus reservations never exceed 16, and equal 16 whenever anything waits (R141). -/
abbrev State.OccupancyLaw (s : State) : Prop := s.occupancy ≤ 16 ∧ (s.waiting ≠ 0 → s.occupancy = 16)

/-- The tickets that are live: of the queued requests and of the unretired request records (R116). -/
def State.liveTickets (s : State) : List Byte := s.queue.map Request.ticket ++ s.ring.filterMap Record.ticket?

/-- No two live requests hold the same ticket (R116). -/
abbrev State.TicketLaw (s : State) : Prop := s.liveTickets.Nodup

/-- The negotiation FIFO holds each address at most once, and exactly the addresses of PENDING entries (R5, R77); the
negotiation in progress is that of the one NEGOTIATING entry (R78). -/
abbrev State.FifoLaw (s : State) : Prop :=
  s.fifo.Nodup ∧ (∀ a : Addr, a ∈ s.fifo ↔ (s.entry a).state = .pending) ∧
    ∀ a : Addr, (s.entry a).state = .negotiating ↔ (s.negotiation.map Negotiation.address) = some a

/-- No two entries that are not FREE hold the same unit number (R8). -/
abbrev State.UnitLaw (s : State) : Prop :=
  ∀ a b : Addr, (s.entry a).state ≠ .free → (s.entry b).state ≠ .free → (s.entry a).unit = (s.entry b).unit → a = b

/-- A FREE entry has every field at its empty value (R1, R5). -/
abbrev State.FreeLaw (s : State) : Prop := ∀ a : Addr, (s.entry a).state = .free → s.entry a = Entry.empty

/-- An ACTIVE entry has terms, and its miss count is less than the miss limit (R88, R108). -/
abbrev State.ActiveLaw (s : State) : Prop :=
  0 < s.missLimit.toNat ∧
    ∀ a : Addr, (s.entry a).state = .active → (s.entry a).terms.isSome = true ∧ (s.entry a).misses < s.missLimit.toNat

/-- Due flags stand in ACTIVE and LOST entries alone (R99, R100). -/
abbrev State.DueLaw (s : State) : Prop :=
  ∀ a : Addr, (s.entry a).due = true → (s.entry a).state = .active ∨ (s.entry a).state = .lost

/-- The attention slot of an address holds an event exactly while its entry's attention state is HELD (R150), and a
RELEASING entry's attention state is NONE (R16, R17). -/
abbrev State.AttentionLaw (s : State) : Prop :=
  ∀ a : Addr, ((s.store a).attention.isSome = true ↔ (s.entry a).attention = .held) ∧
    ((s.entry a).state = .releasing → (s.entry a).attention = .none)

/-- Every slot of a store holds an event of its own kind (R146, R148 to R150). -/
abbrev State.StoreLaw (s : State) : Prop :=
  ∀ a : Addr,
    (∀ e, (s.store a).status = some e → (∀ c, e.data ≠ .condition c) ∧ ∀ c, e.data ≠ .attention c) ∧
    (∀ e, (s.store a).condition = some e → ∃ c, e.data = .condition c) ∧
    (∀ e, (s.store a).attention = some e → ∃ c, e.data = .attention c)

/-- No two binding rows share an address or a unit number (R13). -/
abbrev State.BindingRowsLaw (s : State) : Prop :=
  ∀ i j : Fin 8, ∀ b c : Binding, s.bindings[i.val] = some b → s.bindings[j.val] = some c →
    b.address = c.address ∨ b.unit = c.unit → i = j

/-- A binding row's address is held by no entry of another unit and its unit by no entry at another address, and no event
waiting for the address carries another unit number (R13). -/
abbrev State.BindingHeldLaw (s : State) : Prop :=
  ∀ i : Fin 8, ∀ b, s.bindings[i.val] = some b →
    (∀ a : Addr, (s.entry a).state ≠ .free → (a = b.address ↔ (s.entry a).unit = b.unit)) ∧
    ∀ e, (s.store b.address).status = some e ∨ (s.store b.address).condition = some e ∨
      (s.store b.address).attention = some e → e.unit = b.unit

/-- A round holds its CLAIM's facts only while the line holds it (R53, R69): a new-entry CLAIM names a FREE address and
a unit that no entry holds, a rejoin CLAIM the entry that holds the unit; and no binding row holds one of the two without
the other (R8, R14). -/
abbrev State.RoundLaw (s : State) : Prop :=
  ∀ u a rejoin, s.round = some (.claim u a rejoin) →
    (rejoin = false → (s.entry a).state = .free ∧ ∀ b : Addr, (s.entry b).state ≠ .free → (s.entry b).unit ≠ u) ∧
    (rejoin = true → (s.entry a).state ≠ .free ∧ (s.entry a).unit = u) ∧
    ∀ i : Fin 8, ∀ b, s.bindings[i.val] = some b → (b.address = a ↔ b.unit = u)

/-- The exchange on the line is of its source's kind (R30, R36): NEGOTIATE sends PAGE, SWEEP sends POLL, RELEASE sends
RELEASE, and CENSUS alone holds a field (R57) and takes no WAIT and no REFUSE; it is the CLEAR's DISMISS or marked for
discard exactly during a CLEAR, and marked only when interrupted (R170, R171); a POLL that carries the acknowledge
addresses an entry whose attention state is not HELD (R101, R104). -/
abbrev State.FrameLaw (s : State) : Prop :=
  ∀ x, s.exchange = some x →
    (x.source = .negotiate → x.frame.kind = .page) ∧ (x.source = .sweep → x.frame.kind = .poll) ∧
      (x.source = .release → x.frame.kind = .release) ∧ (x.shape = .field → x.source = .census) ∧
      (x.source = .census → x.shape.acceptsWaitRefuse = false) ∧
      (x.discard = true ∨ x.source = .clearDismiss ↔ s.clearing = true) ∧ (x.discard = true → x.interruptTaken = true) ∧
      (x.source = .sweep → x.frame.ackFlag = true → ∀ a, x.frame.address = some a → (s.entry a).attention ≠ .held)

/-- The source of the exchange on the line fits the work it stands for: a run is active while CENSUS holds the line and
a round is in progress only then (R53, R55), the RELEASE source addresses a RELEASING entry (R18), and no exchange
addresses a FREE entry. -/
abbrev State.SourceLaw (s : State) : Prop :=
  (s.round.isSome = true → ∃ x, s.exchange = some x ∧ x.source = .census ∧ x.discard = false) ∧
  ∀ x, s.exchange = some x →
    (x.discard = false →
      (x.source = .census → s.runActive = true ∧ s.round.isSome = true) ∧
      (x.source = .release → ∃ a, x.frame.address = some a ∧ (s.entry a).state = .releasing)) ∧
    ∀ a, x.frame.address = some a → (s.entry a).state ≠ .free

/-- At most one request is ON-LINE, and but for a CLEAR it is the one whose frame DISPATCH has on the line (R118). -/
abbrev State.OnLineLaw (s : State) : Prop :=
  s.queue.countP Request.isOnLine ≤ 1 ∧
  (s.clearing = false → ∀ r ∈ s.queue, r.phase = .onLine →
    ∃ x, s.exchange = some x ∧ x.source = .dispatch ∧ x.frame.address = r.address)

/-- The counts stay in their ranges: pass-over count (R50), miss count and node pages of an entry (R1, R80, R107), next
index, restart count and wait count of the negotiation (R78, R81 to R83), claims count (R53), attempts, waits
and response length of a request and its record (R117, R126, R131), and byte pointer (R180). -/
abbrev State.RangeLaw (s : State) : Prop :=
  s.passOver ≤ 8 ∧ s.claims ≤ 255 ∧ s.latchPointer ≤ s.latchEnd ∧
  (∀ a : Addr, (s.entry a).misses ≤ 15 ∧ (s.entry a).pages.length ≤ 8) ∧
  (∀ n ∈ s.negotiation, n.next ≤ 15 ∧ n.restarts ≤ 2 ∧ n.waits ≤ 15) ∧
  (∀ r ∈ s.queue, r.attempts ≤ 15 ∧ r.waits ≤ 15) ∧
  ∀ r, .request r ∈ s.ring → r.attempts ≤ 15 ∧ r.waits ≤ 15 ∧ r.payload.length ≤ 16

/-- The configuration registers hold values of their ranges (R184). -/
abbrev State.ConfigLaw (s : State) : Prop :=
  s.lineRate.toNat ≤ 5 ∧ 1 ≤ s.sweepInterval.toNat ∧ s.retryLimit.toNat ≤ 7 ∧
    (1 ≤ s.waitLimit.toNat ∧ s.waitLimit.toNat ≤ 15) ∧ 1 ≤ s.holdOffTime.toNat ∧
    1 ≤ s.missLimit.toNat ∧ s.missLimit.toNat ≤ 15

/-- A commit is pending only while a negotiation is in progress (R93, R94). -/
abbrev State.CommitLaw (s : State) : Prop := s.commitPending = true → s.negotiation.isSome = true

/-- Every law of this file. -/
abbrev State.Laws (s : State) : Prop :=
  (s.LineLaw ∧ s.FrameLaw ∧ s.SourceLaw ∧ s.OnLineLaw ∧ s.RoundLaw) ∧
  (s.FifoLaw ∧ s.UnitLaw ∧ s.FreeLaw ∧ s.ActiveLaw ∧ s.DueLaw) ∧
  (s.QueueLaw ∧ s.OccupancyLaw ∧ s.TicketLaw ∧ s.AttentionLaw ∧ s.StoreLaw) ∧
  (s.BindingRowsLaw ∧ s.BindingHeldLaw ∧ s.RangeLaw ∧ s.ConfigLaw ∧ s.CommitLaw)

end Sys2Proof.Machine
end

