-- ==== Sys2Proof/Certificates/Slice0/Obligations.lean ====
section
/-! DEFINITION. The statements about the model, for the provers. `{ s with f := t.f }` on the right of an equation says
that nothing but the field f may differ. -/

section

open Sys2Proof Sys2Proof.Machine

/-! ## Steps, reset and the command mechanism -/

/-- A step takes the front command with the queue's rest (the queue is the model's, log 3). -/
def Obligations.StepTakesFrontCommand : Prop :=
  ∀ (s : State) (c : Instr) (rest : List Instr), s.pending = c :: rest → step s = exec c { s with pending := rest }

/-- The state after reset: every register reads its value of R194, IRQ# is released (R175, R186, R194), and every law
holds. Both copies of the offer are the default offer, one BASE page with length class 16, every poll class, attention and
confirm, not binding (R75; that its stored more and agree bits are 0 is the model's choice, log 19); every roster entry is
FREE with every field empty and every binding row unused (R22); the line engine (R52), the census unit (R53), the
negotiation unit (R95), the sweep (R96; the timer in half milliseconds, log 20), the dispatcher with its staging row (R113,
R138), the ring with its waiting places (R157) and the table window (R180) stand at 0 or empty. -/
def Obligations.ResetState : Prop :=
  let s := State.reset
  (∀ address : BitVec 5, s.readRegister address =
    ([0x4C, 0x03, 0x00, 0x00, 0x00, 0x00, 0x00, 0x00, 0x00, 0x00, 0x00, 0x00, 0x00, 0x00, 0x00, 0x00,
      0x00, 0x00, 0x00, 0x00, 0x00, 0x03, 0x0A, 0x02, 0x08, 0x04, 0x03, 0x00, 0x00, 0x00, 0x00, 0x00] :
      List Byte).getD address.toNat 0) ∧
  s.irqAsserted = false ∧ s.Laws ∧
  (∀ offer ∈ [s.shadow, s.active], offer.count = 1 ∧
    pageKind (offer.word 0) = .base ∧ pageLengthClass (offer.word 0) = .bytes16 ∧
    (∀ c : PollClass, pageOffersPoll (offer.word 0) c = true) ∧
    pageAttention (offer.word 0) = true ∧ pageConfirm (offer.word 0) = true ∧
    pageMore (offer.word 0) = false ∧ pageAgree (offer.word 0) = false ∧
    (∀ k : Fin 8, k ≠ 0 → offer.word k.val = 0) ∧ ∀ k : Fin 8, offer.binding k.val = false) ∧
  (∀ a : Addr, s.entry a = {
    state := .free, unit := 0, toggle := false, terms := none, pages := [], deviceClass := none, objects := none
    condition := .unknown, attention := .none, misses := 0, holdOff := none, due := false }) ∧
  (∀ i : Fin 8, s.bindings[i.val] = none) ∧
  (s.lineState = .off ∧ s.faultKind = .none ∧ s.exchange = none ∧ s.passOver = 0) ∧
  (s.censusState = .idle ∧ s.dismissOwed = false ∧ s.claims = 0 ∧ s.failures = 0 ∧ s.yield = false ∧ s.round = none ∧
    s.autoTimer = none) ∧
  (s.fifo = [] ∧ s.negotiation = none ∧ s.commitPending = false) ∧
  (s.tickTimer = 20 ∧ s.tickCounter = 0 ∧ s.sweepPointer = 0) ∧
  ((∀ k : Fin 21, s.staging[k.val] = 0) ∧ s.queue = [] ∧ s.ticketCounter = 0) ∧
  (s.ring = [] ∧ (∀ a : Addr, s.store a = { status := none, condition := none, attention := none }) ∧
    s.censusSlot = none) ∧
  ((∀ k : Fin 32, s.latch[k.val] = 0) ∧ s.latchPointer = 0 ∧ s.latchEnd = 0) ∧ s.clearing = false

/-- A hardware reset and its release leave every piece of state at its value after reset, the commands still waiting outside
the part kept (log 4); between them no command and no event changes the part, and a TABDATA read returns 0x00 (R173,
R174, R187). -/
def Obligations.HardwareReset : Prop :=
  (∀ s : State, ∃ t, exec .hardwareReset s = .next t ∧ t = { State.reset with resetAsserted := true, pending := s.pending } ∧
    exec .resetRelease t = .next { State.reset with pending := s.pending }) ∧
  (∀ (c : Instr) (s : State), s.resetAsserted = true → c ≠ .hardwareReset → c ≠ .resetRelease →
    ∃ t, exec c s = .next t ∧ t = { s with readData := t.readData } ∧ (c = .tabdataRead → t.readData = 0))

/-- During a CLEAR every command of the table is refused with CLEARING; a code that is not in the table gives BAD_COMMAND
in every state (R170, R177). -/
def Obligations.ClearingAndBadCommand : Prop :=
  (∀ (code : Byte) (c : Instr) (s : State), (code, c) ∈ commandTable → s.Running → s.clearing = true →
    Refuses c s 0x02) ∧
  (∀ (code : Byte) (s : State), (∀ row ∈ commandTable, row.1 ≠ code) → s.Running → Refuses (.badCommand code) s 0x01)

/-! ## Line commands, faults and recovery (chapter 8) -/

/-- LINE ENABLE in OFF brings the line to IDLE, and LINE RECOVER in FAULT begins the recovery check; in any other line
state each is refused (R159, R168). The check ends IDLE with CAUSE.RECOVERED, or in FAULT with kind STUCK or CLOCK and
CAUSE.FAULT (R168). -/
def Obligations.EnableAndRecover : Prop :=
  (∀ s : State, s.Open →
    (s.lineState = .off → exec .lineEnable s = .next { s with lineState := .idle, result := 0, resultArg := 0 }) ∧
    (s.lineState ≠ .off → Refuses .lineEnable s 0x05) ∧
    (s.lineState = .fault → exec .lineRecover s =
      .next { s with lineState := .recovering, result := 0, resultArg := 0 }) ∧
    (s.lineState ≠ .fault → Refuses .lineRecover s 0x05)) ∧
  (∀ s : State, s.Running → s.lineState = .recovering →
    exec .recoverySuccess s = .next { s with lineState := .idle, cause := s.cause ||| 0x40 } ∧
    exec .recoveryTimeout s = .next { s with lineState := .fault, faultKind := .stuck, cause := s.cause ||| 0x08 } ∧
    exec .clockFault s = .next { s with lineState := .fault, faultKind := .clock, cause := s.cause ||| 0x08 })

/-- LINE DISABLE (R17, R46, R66, R85, R94, R106, R128, R160, R161, R162), refused in OFF, DRAINING and RECOVERING. Work
that is not on the line ends as the command is taken: an active run with LINE, a negotiation in progress abandoned; that it
is abandoned also where a rejoin CLAIM of that very entry is on the line, though R12 keeps it, is the model's choice (log
25). From IDLE and FAULT the line is OFF at once with CAUSE.DRAINED. From BUSY the attempt or field on the line is marked
and the line is DRAINING, and the work of the source on the line awaits its end. In RETRY GAP and LINE CHECK the exchange
ends interrupted at once and the line is OFF: the run or the negotiation on the line ends too, a poll stays owed, a
RELEASING entry waits, and a request is HELD, or recorded RELEASED where its entry has become RELEASING (that a run's CENSUS
END then stands before that record is the model's choice, log 30). -/
def Obligations.LineDisable : Prop :=
  ∀ s : State, s.Open →
    let taken (t : State) : Host.Outcome State Fault Refusal := .next { t with result := 0, resultArg := 0 }
    let lost : State := s.withRunLost.withNegotiationAbandoned
    (s.lineState = .off ∨ s.lineState = .draining ∨ s.lineState = .recovering → Refuses .lineDisable s 0x05) ∧
    (s.lineState = .idle ∨ s.lineState = .fault → s.exchange = none → exec .lineDisable s = taken lost.switchedOff) ∧
    ∀ x, s.lineState = .busy → s.exchange = some x → x.discard = false → x.source ≠ .clearDismiss →
      (∀ n, x.source = .negotiate → s.negotiation = some n → x.frame.address = some n.address) →
      let waiting : State := if x.source = .census then s.withNegotiationAbandoned
        else if x.source = .negotiate then s.withRunLost else lost
      (x.phase = .command ∨ x.phase = .reply ∨ x.phase = .response ∨ x.phase = .field → exec .lineDisable s =
        taken { waiting with lineState := .draining, exchange := some { x with interruptTaken := true } }) ∧
      (x.phase = .retryGap ∨ x.phase = .lineCheck →
        (x.source ≠ .dispatch → exec .lineDisable s = taken lost.switchedOff) ∧
        (∀ r, x.source = .dispatch → s.queue.find? Request.isOnLine = some r → r.abortRequested = false →
          ((∀ a, r.address = some a → (s.entry a).state ≠ .releasing) → exec .lineDisable s = taken ({ lost with
            queue := updateFirst Request.isOnLine (fun _ => { r with phase := .held }) s.queue } : State).switchedOff) ∧
          (∀ a, r.address = some a → (s.entry a).state = .releasing → s.negotiation.map Negotiation.address ≠ some a →
            exec .lineDisable s = taken ({ lost with
              queue := s.queue.eraseP Request.isOnLine
              ring := lost.ring ++ [.request {
                  address := some a, ticket := r.ticket, result := .released, reason := 0,
                  attempts := r.attempts, abortRequested := false, waits := r.waits, payload := [] }]
              cause := lost.cause ||| 0x01 } : State).switchedOff)))

/-- A failed attempt of a request's exchange that an interruption has reached ends it interrupted, with no miss counted: the
request is HELD (R46, R128, R161), recorded RELEASED through its reservation where its entry has become RELEASING (R17), or
recorded ABORTED where an ABORT was taken (R136; of a RELEASING entry's request too, log 28). A fault (R19, R47, R67, R85,
R106, R129, R164, R165, R166): STUCK is found at the end of a clear-wait, CLOCK in any phase in which MCK is clocked. The
exchange of whichever source ends faulted and the line enters FAULT with the kind found; a request on the line ends
LINE_FAULT through its reservation; an active run ends with LINE, and a negotiation in progress is abandoned, that of the
entry of a rejoin CLAIM on the line too, though R12 keeps it, which is the model's choice (log 25); everything else is kept,
so that a poll stays owed with its miss count, a RELEASING entry waits, no entry is created and no toggle flips. -/
def Obligations.LineFaultsAndInterruptedRequests : Prop :=
  (∀ (s : State) (x : Exchange) (r : Request) (c : Instr) (reason : Failure), s.Open → s.exchange = some x →
    x.source = .dispatch → x.interruptTaken = true → x.discard = false → s.lineState = .busy ∨ s.lineState = .draining →
    s.queue.find? Request.isOnLine = some r → x.FailsBy c reason →
    let releasing : Prop := ∃ a, r.address = some a ∧ (s.entry a).state = .releasing
    let posted (result : Completion) : State := { s with
      queue := s.queue.eraseP Request.isOnLine
      ring := s.ring ++ [.request {
          address := r.address, ticket := r.ticket, result := result, reason := 0,
          attempts := r.attempts, abortRequested := r.abortRequested, waits := r.waits, payload := [] }]
      cause := s.cause ||| 0x01 }
    ∃ t, exec c s = .next t ∧
      (r.abortRequested = true → (posted .aborted).LineFreed t) ∧
      (r.abortRequested = false → releasing → (posted .released).LineFreed t) ∧
      (r.abortRequested = false → ¬releasing → ({ s with
        queue := updateFirst Request.isOnLine (fun _ => { r with phase := .held }) s.queue } : State).LineFreed t)) ∧
  (∀ (s : State) (x : Exchange), s.Open → s.lineState = .busy ∨ s.lineState = .draining → s.exchange = some x →
    x.discard = false → x.source ≠ .clearDismiss →
    let faulted (v : State) (kind : FaultKind) : Host.Outcome State Fault Refusal :=
      let lost := v.withRunLost.withNegotiationAbandoned
      .next { lost with lineState := .fault, faultKind := kind, exchange := none, cause := lost.cause ||| 0x08 }
    let leaves (v : State) : Prop :=
      (x.phase = .lineCheck → exec .clearWaitExpiry s = faulted v .stuck) ∧
      (x.phase ≠ .lineCheck → exec .clockFault s = faulted v .clock)
    (x.source ≠ .dispatch → leaves s) ∧
    (∀ r, x.source = .dispatch → s.queue.find? Request.isOnLine = some r → leaves { s with
      queue := s.queue.eraseP Request.isOnLine
      ring := s.ring ++ [.request {
          address := r.address, ticket := r.ticket, result := .lineFault, reason := 0,
          attempts := r.attempts, abortRequested := r.abortRequested, waits := r.waits, payload := [] }]
      cause := s.cause ||| 0x01 }))

/-! ## The census (chapter 3) -/

/-- CENSUS START (R54): the four refusals in their order, and the run it starts. -/
def Obligations.CensusStartChecksAndRun : Prop :=
  ∀ s : State, s.Open →
    (s.lineState = .off ∨ s.lineState = .draining → Refuses .censusStart s 0x03) ∧
    (s.lineState = .fault ∨ s.lineState = .recovering → Refuses .censusStart s 0x04) ∧
    (s.lineState = .idle ∨ s.lineState = .busy →
      (s.censusState ≠ .idle → Refuses .censusStart s 0x06) ∧
      (s.censusState = .idle → s.args[0].getLsbD 0 = true → (∃ a : Addr, (s.entry a).state ≠ .free) →
        Refuses .censusStart s 0x08) ∧
      (s.censusState = .idle → s.round = none →
        (s.args[0].getLsbD 0 = true → ∀ a : Addr, (s.entry a).state = .free) →
        exec .censusStart s = .next { s with
          censusState := .running, claims := 0, failures := 0, yield := false, dismissOwed := s.args[0].getLsbD 0,
          autoTimer := none, result := 0, resultArg := 0 }))

/-- CENSUS STOP by where the run stands (R64, R70). -/
def Obligations.CensusStopByRun : Prop :=
  ∀ s : State, s.Open →
    (s.censusState = .idle → Refuses .censusStop s 0x07) ∧
    (s.censusState = .stopping → exec .censusStop s = .next { s with result := 0, resultArg := 0 }) ∧
    (∀ r, s.censusState = .running → s.round = some r →
      exec .censusStop s = .next { s with censusState := .stopping, result := 0, resultArg := 0 }) ∧
    (s.censusState = .running → s.round = none →
      exec .censusStop s = .next { s.withRunEnded .stopped 0 with result := 0, resultArg := 0 })

/-- The ends of a round, or of the run's DISMISS, that claim no node (R39, R45, R46, R55, R56, R57, R59, R60, R62, R63,
R65, R66; a field is taken from COMMAND too, log 7). On a BUSY line: a field of all ones ends the run, whatever the
check slots read, with COMPLETE, or with STOPPED where a STOP was taken, and leaves the failure count. A field with a
wrong check byte, a DISMISS or a CENSUS frame whose every attempt met contention, and a CLAIM whose last attempt fails,
by contention, without an answer or with a response that is not accepted, fail the round: no entry is changed, the
failure count rises, and DISMISS owed stays. On a DRAINING line a failed attempt ends the round or DISMISS, a CENSUS
frame that was sent opens its field, and a field, whatever it reads, leads to no assignment, no freeing and no CLAIM;
the failure count is kept. -/
def Obligations.RoundEndsWithoutClaim : Prop :=
  ∀ (s : State) (x : Exchange), s.Open → s.exchange = some x → x.source = .census → x.discard = false →
    s.censusState ≠ .idle →
    let ends (v : State) (c : Instr) : Prop := ∃ t, exec c s = .next t ∧ v.RoundOver t
    let inField : Prop := x.shape = .field ∧ (x.phase = .command ∨ x.phase = .field)
    let attemptFails (v : State) : Prop := ∀ c reason, x.FailsBy c reason → ends v c
    (s.lineState = .busy → x.interruptTaken = false →
      let failed : State := { s with failures := s.failures + 1 }
      (∀ check mda, inField → ∃ t, exec (.fieldEnd 0xFFFFFFFFFF check mda) s = .next t ∧
        (s.withRunEnded (if s.censusState = .stopping then .stopped else .complete) 0).LineFreed t) ∧
      (∀ u check mda, inField → u ≠ 0xFFFFFFFFFF → check ≠ checkByte (unitBytes u) →
        ends failed (.fieldEnd u check mda)) ∧
      (x.allowed ≤ x.used → attemptFails failed)) ∧
    (s.lineState = .draining → x.interruptTaken = true →
      attemptFails s ∧
      (x.shape = .field → x.phase = .command →
        exec .commandSent s = .next { s with exchange := some { x with phase := .field } }) ∧
      (∀ u check mda, inField → ends s (.fieldEnd u check mda)))

/-- A field that names a winner leads, in the same grant, to a CLAIM with its own attempts (R8, R10, R36, R61, R164; a field
is taken from COMMAND too, log 7; the level read at the CLAIM's LINE CHECK is the event's operand, log 6; the last
failure starts at none, log 26). An entry that holds the unit keeps its address; a RELEASING one is first freed, with
RELEASED answered no, and the later steps follow. Then a bound unit goes to its bound address, and any other to the
lowest address that is FREE, unbound and without a waiting event; where there is none, the run ends with ROSTER_FULL and
the unit number, or with STOPPED where a STOP was taken (R65). -/
def Obligations.WinningUnitIsClaimed : Prop :=
  ∀ (s : State) (x : Exchange) (u : UnitNumber) (mda : Level), s.Carries x → x.source = .census → x.shape = .field →
    x.phase = .command ∨ x.phase = .field → u ≠ 0xFFFFFFFFFF →
    let claimed (v : State) (a : Addr) (rejoin : Bool) : State := { v with
      round := some (.claim u a rejoin)
      lineRateInForce := if mda = .recessive then s.lineRate else s.lineRateInForce
      exchange := some { x with
        frame := { address := none, toggle := false, kind := .claim, ackFlag := false,
                   payload := unitBytes u ++ [BitVec.ofNat 8 a.number] }
        sentToggle := false, shape := .claim, allowed := 1 + s.retryLimit.toNat, lastFailure := none
        used := if mda = .recessive then 1 else 0, phase := if mda = .recessive then .command else .lineCheck } }
    let taken (v : State) (a : Addr) : Prop := (v.entry a).state ≠ .free ∨
      (∃ i : Fin 8, ∃ w, v.bindings[i.val] = some w ∧ w.address = a) ∨ v.store a ≠ Store.empty
    let placed (v t : State) : Prop :=
      (∀ (i : Fin 8) (w : Binding), v.bindings[i.val] = some w → w.unit = u →
        (∀ j : Fin 8, j < i → ∀ y, v.bindings[j.val] = some y → y.unit ≠ u) → t = claimed v w.address false) ∧
      ((∀ i : Fin 8, ∀ w, v.bindings[i.val] = some w → w.unit ≠ u) →
        (∀ a : Addr, ¬taken v a → (∀ b : Addr, b < a → taken v b) → t = claimed v a false) ∧
        ((∀ a : Addr, taken v a) →
          (v.censusState = .running → (v.withRunEnded .rosterFull u).LineFreed t) ∧
          (v.censusState = .stopping → (v.withRunEnded .stopped 0).LineFreed t)))
    ∃ t, exec (.fieldEnd u (checkByte (unitBytes u)) mda) s = .next t ∧
      (∀ a : Addr, (s.entry a).state ≠ .free → (s.entry a).unit = u →
        (∀ b : Addr, b < a → (s.entry b).state = .free ∨ (s.entry b).unit ≠ u) →
        ((s.entry a).state ≠ .releasing → t = claimed s a true) ∧
        ((s.entry a).state = .releasing → s.occupancy < 16 → s.waiting = 0 → placed { s with
          roster := s.roster.set a.val Entry.empty, fifo := s.fifo.erase a
          ring := s.ring ++ [.event { address := some a, unit := u, data := .released false }]
          cause := s.cause ||| 0x01 } t)) ∧
      ((∀ b : Addr, (s.entry b).state ≠ .free → (s.entry b).unit ≠ u) → placed s t)

/-- An accepted CLAIM of a new unit creates its entry (R9, R55, R62, R65, R66, R162): PENDING with the unit number and
every other field empty, appended to the FIFO, and the claim counted; the failure count is 0, but on a draining line it
stays as it was (log 27); then the round is over, also under a STOP and on a draining line, where a STOPPING run ends
with LINE and not with R65's STOPPED, which is the model's choice (log 10). -/
def Obligations.AcceptedClaimCreatesEntry : Prop :=
  ∀ (s : State) (x : Exchange) (u : UnitNumber) (a : Addr), s.Open → s.lineState = .busy ∨ s.lineState = .draining →
    s.exchange = some x → x.discard = false → x.source = .census → x.shape = .claim → x.frame.kind = .claim →
    x.sentToggle = false → x.phase = .reply → s.round = some (.claim u a false) → a ∉ s.fifo →
    ∃ t, exec (.responseFrame ((Answer.ack []).wire false) .recessive) s = .next t ∧ ({ s with
      failures := if s.lineState = .draining then s.failures else 0, claims := min 255 (s.claims + 1)
      fifo := s.fifo ++ [a]
      roster := s.roster.set a.val { Entry.empty with state := .pending, unit := u } } : State).RoundOver t

/-- An accepted CLAIM of a unit that an entry holds (R11, R55, R62, R65, R66, R133, R147, R162): its requests receive
NODE_RESTARTED, its negotiation ends, and a commit that waits behind it is copied; the entry restarts as PENDING with
its unit number and its terms kept and every other field empty, and stands in the FIFO; its condition and attention
slots are emptied; RESTARTED posts where there is room, and otherwise takes the status slot in place of what waits
there. An entry that a RELEASE has made RELEASING has its toggle set to 0 and is else kept (R69). The claim is counted;
the failure count is 0, but on a draining line it stays as it was (log 27); then the round is over, also under a STOP
and on a draining line, where a STOPPING run ends with LINE and not with R65's STOPPED, which is the model's choice (log
10). -/
def Obligations.RejoinRestartsTheEntry : Prop :=
  ∀ (s : State) (x : Exchange) (u : UnitNumber) (a : Addr), s.Open → s.lineState = .busy ∨ s.lineState = .draining →
    s.exchange = some x → x.discard = false → x.source = .census → x.shape = .claim → x.frame.kind = .claim →
    x.sentToggle = false → x.phase = .reply → s.round = some (.claim u a true) → (s.queue.map Request.ticket).Nodup →
    let counted (v : State) : State := { v with
      failures := if s.lineState = .draining then s.failures else 0, claims := min 255 (s.claims + 1) }
    let told := s.withVerdicts a .nodeRestarted
    let ends := s.negotiation.map Negotiation.address = some a
    let emptied : Store := { s.store a with condition := none, attention := none }
    let left : State := { told with stores := s.stores.set a.val emptied }
    let restarted : EventRecord := { address := some a, unit := (s.entry a).unit, data := .restarted }
    let rejoined (stores : Vector Store 24) (ring : List Record) (cause : Byte) : State := counted { told with
      negotiation := if ends then none else s.negotiation
      active := if ends ∧ s.commitPending = true then s.shadow else s.active
      commitPending := if ends then false else s.commitPending
      fifo := if a ∈ s.fifo then s.fifo else s.fifo ++ [a]
      roster := s.roster.set a.val
        { Entry.empty with state := .pending, unit := (s.entry a).unit, terms := (s.entry a).terms }
      stores := stores, ring := ring
      cause := told.cause ||| (if ends ∧ s.commitPending = true then 0x04 else 0) ||| cause }
    ∃ t, exec (.responseFrame ((Answer.ack []).wire false) .recessive) s = .next t ∧
      ((s.entry a).state ≠ .releasing →
        (left.occupancy < 16 → left.waiting = 0 →
          (rejoined (s.stores.set a.val emptied) (told.ring ++ [.event restarted]) 0x01).RoundOver t) ∧
        (16 ≤ left.occupancy ∨ left.waiting ≠ 0 →
          (rejoined (s.stores.set a.val { emptied with status := some restarted }) told.ring
            (if left.waiting = 0 then 0x80 else 0)).RoundOver t)) ∧
      ((s.entry a).state = .releasing → (counted { s with
        roster := s.roster.set a.val { s.entry a with toggle := false } }).RoundOver t)

/-- The auto-census timer: a write restarts it from the full period, or stops it for 0 (R71; n × 100 ms in half
milliseconds, log 20), and its expiry starts a run that is not FRESH and changes neither RESULT nor CAUSE (R72). -/
def Obligations.AutoCensusTimerAndExpiry : Prop :=
  (∀ (v : Byte) (s : State), s.Running → exec (.autocensusWrite v) s =
    .next { s with autoCensus := v, autoTimer := if v = 0 then none else some (v.toNat * 200) }) ∧
  (∀ (n : Nat) (s : State), s.Open → s.lineState = .idle ∨ s.lineState = .busy → s.censusState = .idle →
    s.autoTimer = some n → s.round = none → exec .autoCensusExpiry s =
      .next { s with censusState := .running, claims := 0, failures := 0, yield := false, dismissOwed := false,
                     autoTimer := none })

/-! ## Requests (chapter 6) -/

/-- SUBMIT's refusals, in their order (R114). -/
def Obligations.SubmitRefusals : Prop :=
  ∀ s : State, s.Open →
    let kind := s.staging[0]
    let address := s.staging[1].toNat
    let length := s.staging[3].toNat
    let bad := (kind ≠ 1 ∧ kind ≠ 2) ∨ 24 < address ∨ (kind = 2 ∧ address = 0) ∨ 16 < length
    (s.lineState = .fault ∨ s.lineState = .recovering → Refuses .submit s 0x04) ∧
    (s.lineState ≠ .fault → s.lineState ≠ .recovering →
      (16 ≤ s.queue.length → Refuses .submit s 0x09) ∧
      (s.queue.length < 16 →
        (bad → Refuses .submit s 0x0A) ∧
        (¬bad → ∀ a : Addr, address = a.number →
          ((s.entry a).state ≠ .active → (s.entry a).state ≠ .pending → (s.entry a).state ≠ .negotiating →
            Refuses .submit s 0x0B) ∧
          ((s.entry a).state = .active ∨ (s.entry a).state = .pending ∨ (s.entry a).state = .negotiating →
            (∀ t, (s.entry a).terms = some t → t.payloadLimit.bytes < length → Refuses .submit s 0x0C) ∧
            ((∀ t, (s.entry a).terms = some t → length ≤ t.payloadLimit.bytes) →
              ∀ r, (s.entry a).objects = some r → s.staging[2] < r.lowest ∨ r.highest < s.staging[2] →
                Refuses .submit s 0x0D)))))

/-- A SUBMIT that passes its checks appends the staged request, UNSTARTED, with the first ticket from the counter that
no live request holds; RESULTARG receives it and the counter stands one past it (R115, R116). -/
def Obligations.SubmitAppendsWithTicket : Prop :=
  ∀ (s : State) (kind : RequestKind), s.Open → s.lineState ≠ .fault → s.lineState ≠ .recovering →
    s.queue.length < 16 → s.ring.length ≤ 16 → s.staging[0] = kind.code → s.staging[1].toNat ≤ 24 →
    s.staging[3].toNat ≤ 16 → (kind = .read → s.staging[1] ≠ 0) →
    (∀ a : Addr, s.staging[1].toNat = a.number →
      ((s.entry a).state = .active ∨ (s.entry a).state = .pending ∨ (s.entry a).state = .negotiating) ∧
      (∀ t, (s.entry a).terms = some t → s.staging[3].toNat ≤ t.payloadLimit.bytes) ∧
      (∀ r, (s.entry a).objects = some r → r.lowest ≤ s.staging[2] ∧ s.staging[2] ≤ r.highest)) →
    ∃ k : Nat, k < 33 ∧ s.ticketCounter + BitVec.ofNat 8 k ∉ s.liveTickets ∧
      (∀ j < k, s.ticketCounter + BitVec.ofNat 8 j ∈ s.liveTickets) ∧
      exec .submit s = .next { s with
        queue := s.queue ++ [
          { ticket := s.ticketCounter + BitVec.ofNat 8 k, address := Addr.ofNumber? s.staging[1].toNat, kind := kind,
            object := s.staging[2], length := s.staging[3].toNat, payload := tabulate 16 fun i => s.staging[5 + i.val],
            noRetry := s.staging[4].getLsbD 0, phase := .unstarted, verdict := none, attempts := 0, waits := 0,
            abortRequested := false }]
        ticketCounter := s.ticketCounter + BitVec.ofNat 8 k + 1
        result := 0, resultArg := s.ticketCounter + BitVec.ofNat 8 k }

/-- ABORT by the phase of the request that holds the ticket (R46, R135, R136): NO_TICKET where none does or it has a
verdict; a HELD request, and an UNSTARTED one with room, posts ABORTED; an UNSTARTED one without room keeps its verdict;
the attempt of an ON-LINE one is its last, and in RETRY GAP and LINE CHECK its exchange ends at once and ABORTED is
posted through its reservation. That an ON-LINE request whose entry a RELEASE has made RELEASING is treated like any
other, and not refused with NO_TICKET, is the model's choice (R137, log 28). -/
def Obligations.AbortByPhase : Prop :=
  ∀ s : State, s.Open →
    let holds := Request.hasTicket s.args[0]
    (s.queue.find? holds = none → Refuses .abort s 0x0E) ∧
    (∀ r, s.queue.find? holds = some r → r.verdict ≠ none → Refuses .abort s 0x0E) ∧
    (∀ r, s.queue.find? holds = some r → r.verdict = none →
      (r.phase = .held ∨ (r.phase = .unstarted ∧ s.occupancy < 16 ∧ s.waiting = 0) → exec .abort s = .next { s with
        queue := s.queue.eraseP holds
        ring := s.ring ++ [.request {
            address := r.address, ticket := r.ticket, result := .aborted, reason := 0,
            attempts := r.attempts, abortRequested := true, waits := r.waits, payload := [] }]
        cause := s.cause ||| 0x01, result := 0, resultArg := 0 }) ∧
      (r.phase = .unstarted → s.waiting ≠ 0 → exec .abort s = .next { s with
        queue := updateFirst holds (fun q => { q with abortRequested := true, verdict := some .aborted }) s.queue
        result := 0, resultArg := 0 }) ∧
      (r.phase = .unstarted → 16 ≤ s.occupancy → s.waiting = 0 → exec .abort s = .next { s with
        queue := updateFirst holds (fun q => { q with abortRequested := true, verdict := some .aborted }) s.queue
        cause := s.cause ||| 0x80, result := 0, resultArg := 0 }) ∧
      (r.phase = .onLine → r.abortRequested = true →
        exec .abort s = .next { s with result := 0, resultArg := 0 }) ∧
      (∀ x, r.phase = .onLine → r.abortRequested = false → s.exchange = some x →
        x.phase = .command ∨ x.phase = .reply ∨ x.phase = .response → exec .abort s = .next { s with
          queue := updateFirst holds (fun q => { q with abortRequested := true }) s.queue
          exchange := some { x with interruptTaken := true }, result := 0, resultArg := 0 }) ∧
      (∀ x, r.abortRequested = false → s.lineState = .busy → s.exchange = some x → x.source = .dispatch →
        x.discard = false → x.phase = .retryGap ∨ x.phase = .lineCheck →
        s.queue.find? Request.isOnLine = some r → ∃ t, exec .abort s = .next t ∧ t = { s with
          lineState := .idle, exchange := none, yield := t.yield, queue := s.queue.eraseP holds
          ring := s.ring ++ [.request {
              address := r.address, ticket := r.ticket, result := .aborted, reason := 0,
              attempts := r.attempts, abortRequested := true, waits := r.waits, payload := [] }]
          cause := s.cause ||| 0x01, result := 0, resultArg := 0 }))

/-- A grant to DISPATCH starts the oldest ready request (R37, R50, R118 to R122). A request is ready when it has no verdict,
is HELD or is UNSTARTED with a slot that can be reserved, no older all-call stands in the queue, and its entry is ACTIVE
and not in hold-off with no older request for its address, or it is an all-call and the queue's head. It is ON-LINE, its
frame is its kind's, an all-call one with toggle 0 and no answer expected, and its lead-in, which waits while MDA reads
dominant (R164; the level is the event's operand, log 6), counts one attempt. -/
def Obligations.GrantStartsTheRequest : Prop :=
  ∀ (s : State) (older rest : List Request) (r : Request) (mda : Level), s.Granting → s.releaseReady = false →
    s.censusReady = false → (s.negotiateReady = false ∧ s.sweepReady = false) ∨ 8 ≤ s.passOver →
    s.queue = older ++ r :: rest → (∀ q ∈ s.queue, q.phase ≠ .onLine) →
    let ready (before : List Request) (q : Request) : Prop :=
      q.verdict = none ∧ (q.phase = .held ∨ (q.phase = .unstarted ∧ s.occupancy < 16)) ∧
      (∀ p ∈ before, p.address ≠ none) ∧ (q.address = none → before = []) ∧
      ∀ a, q.address = some a → (s.entry a).state = .active ∧ (s.entry a).holdOff = none ∧
        ∀ p ∈ before, p.address ≠ some a
    ready older r → (∀ before q after, older = before ++ q :: after → ¬ready before q) →
    let toggle : Bool := match r.address with | some a => (s.entry a).toggle | none => false
    exec (.lineGrant mda) s = .next { s with
      lineState := .busy, passOver := 0, yield := false,
      lineRateInForce := if mda = .recessive then s.lineRate else s.lineRateInForce
      queue := older ++ { r with
        phase := .onLine, attempts := if mda = .recessive then min 15 (r.attempts + 1) else r.attempts } :: rest
      exchange := some {
        source := .dispatch
        frame := { address := r.address, toggle := toggle, ackFlag := false,
                   kind := match r.kind with | .write => .write | .read => .read
                   payload := match r.kind with
                     | .write => r.object :: r.payload.toList.take r.length
                     | .read => [r.object, BitVec.ofNat 8 r.length] }
        sentToggle := toggle
        shape := match r.kind, r.address with
          | .write, none => .noAnswer
          | .write, some a => .write ((s.entry a).terms.any fun t => t.confirm)
          | .read, _ => .read r.length
        allowed := if r.noRetry then 1 else 1 + s.retryLimit.toNat
        used := if mda = .recessive then 1 else 0, phase := if mda = .recessive then .command else .lineCheck
        lastFailure := none, interruptTaken := false, discard := false } }

/-- The end of a READ's or an addressed WRITE's exchange (R3, R17, R34, R42, R45, R123, R125 to R127), also on a draining
line and under ABORT (R128, R136, R162); an answer or an expired window is taken from COMMAND too (log 7). An ACK inside the
shape posts DONE with its payload and REFUSE posts REFUSED with the reason, both through the reservation, the toggle flipped
and the miss count 0; a confirm byte that differs is accepted as an ACK but fails the attempt, which a retry follows, or
attempts exhausted, or under an interruption the end. An interrupted end leaves the request HELD, or posts RELEASED where
its entry has become RELEASING, or ABORTED where an ABORT was taken (log 28). WAIT starts the hold-off and counts: at the
limit it posts NODE_BUSY, and below it ends as an interrupted end does. Attempts exhausted, by contention, without an
answer, by a response that is not accepted or by a confirm byte, post OUT_OF_STEP where the last failure was sequence,
otherwise NO_ANSWER, and count a miss, at most to 15, but none for a RELEASING entry; at the miss limit an ACTIVE entry
becomes LOST (R108): its other requests receive NODE_LOST and LOST is raised. -/
def Obligations.AnswerEndsTheRequest : Prop :=
  ∀ (s : State) (x : Exchange) (r : Request) (a : Addr), s.Open → s.lineState = .busy ∨ s.lineState = .draining →
    s.exchange = some x → x.discard = false → x.source = .dispatch →
    (∃ wanted, x.shape = .read wanted ∧ wanted ≤ 16) ∨ (∃ confirm, x.shape = .write confirm) →
    x.frame.kind = .read ∨ x.frame.kind = .write → x.frame.address = some a → x.phase = .command ∨ x.phase = .reply →
    s.queue.find? Request.isOnLine = some r → r.address = some a →
    let ends (c : Instr) (v : State) : Prop := ∃ t, exec c s = .next t ∧ v.LineFreed t
    let answer (answer : Answer) : Instr := .responseFrame (answer.wire x.sentToggle) .recessive
    let posted (result : Completion) (reason : BitVec 4) (waits : Nat) (payload : List Byte) (e : Entry) : State := { s with
      queue := s.queue.eraseP Request.isOnLine, roster := s.roster.set a.val e
      ring := s.ring ++ [.request {
          address := some a, ticket := r.ticket, result := result, reason := reason,
          attempts := r.attempts, abortRequested := r.abortRequested, waits := waits, payload := payload }]
      cause := s.cause ||| 0x01 }
    let held (waits : Nat) (e : Entry) : State :=
      if r.abortRequested then posted .aborted 0 waits [] e
      else if (s.entry a).state = .releasing then posted .released 0 waits [] e
      else { s with
        queue := updateFirst Request.isOnLine (fun _ => { r with phase := .held, waits := waits }) s.queue
        roster := s.roster.set a.val e }
    let accepted : Entry := { s.entry a with toggle := !(s.entry a).toggle, misses := 0 }
    let heldOff : Entry := { s.entry a with holdOff := some s.holdOffTime.toNat }
    let waits := min 15 (r.waits + 1)
    let exhausts (c : Instr) (result : Completion) (e : Entry) : Prop :=
      let missed : Entry := if e.state = .releasing then e else { e with misses := min 15 (e.misses + 1) }
      let told := (posted result 0 r.waits [] missed).withVerdicts a .nodeLost
      ((e.state = .active → missed.misses < s.missLimit.toNat) → ends c (posted result 0 r.waits [] missed)) ∧
      (e.state = .active → s.missLimit.toNat ≤ missed.misses → (s.queue.map Request.ticket).Nodup →
        told.occupancy < 16 → told.waiting = 0 → ends c { told with
          roster := s.roster.set a.val { missed with state := .lost, holdOff := none }
          ring := told.ring ++ [.event { address := some a, unit := e.unit, data := .lost }]
          cause := told.cause ||| 0x01 })
    (∀ data : List Byte, (∃ wanted, x.shape = .read wanted ∧ data.length ≤ wanted) ∨
      (x.shape = .write false ∧ data = []) ∨ (x.shape = .write true ∧ data = [checkByte x.frame.payload]) →
      ends (answer (.ack data)) (posted .done 0 r.waits data accepted)) ∧
    (∀ b : Byte, x.shape = .write true → b ≠ checkByte x.frame.payload →
      (x.interruptTaken = false → x.used < x.allowed →
        exec (answer (.ack [b])) s = .next { s with
          exchange := some { x with phase := .retryGap, lastFailure := some .confirm }
          roster := s.roster.set a.val accepted }) ∧
      (x.interruptTaken = false → x.allowed ≤ x.used → exhausts (answer (.ack [b])) .noAnswer accepted) ∧
      (x.interruptTaken = true → ends (answer (.ack [b])) (held r.waits accepted))) ∧
    (∀ reason : BitVec 4, reason ≠ 0 →
      ends (answer (.refuse reason)) (posted .refused reason r.waits [] accepted)) ∧
    (s.waitLimit.toNat ≤ waits → ends (answer .wait) (posted .nodeBusy 0 waits [] heldOff)) ∧
    (waits < s.waitLimit.toNat → ends (answer .wait) (held waits heldOff)) ∧
    (x.interruptTaken = false → x.allowed ≤ x.used → ∀ c reason, x.FailsBy c reason →
      exhausts c (if reason = .sequence then .outOfStep else .noAnswer) (s.entry a))

/-- The tail of a command frame (R26, R36, R44, R45, R55, R56, R57, R63, R66, R124, R171; what COMMAND_SENT reports is log 7):
a WRITE to the all-call ends DONE, or NO_ANSWER where its last attempt meets contention, and reads and changes no entry and
counts no miss; the run's DISMISS ends sent, is owed no more, sets the failure count to 0 and is over as a round is, also
under a STOP and on a draining line, where a STOPPING run ends with LINE and not with R65's STOPPED, which is the model's
choice (log 10); the CLEAR's DISMISS leads to the emptying stage; a CENSUS frame opens its field, and a frame that expects
an answer its reply window. -/
def Obligations.CommandSentEndsOrAwaits : Prop :=
  (∀ (s : State) (x : Exchange), s.Open → s.lineState = .busy ∨ s.lineState = .draining → s.exchange = some x →
    x.discard = false → x.phase = .command →
    (∀ r, x.source = .dispatch → x.shape = .noAnswer → s.queue.find? Request.isOnLine = some r → r.address = none →
      let ends (c : Instr) (result : Completion) : Prop := ∃ t, exec c s = .next t ∧ ({ s with
        queue := s.queue.eraseP Request.isOnLine
        ring := s.ring ++ [.request {
            address := none, ticket := r.ticket, result := result, reason := 0,
            attempts := r.attempts, abortRequested := r.abortRequested, waits := r.waits, payload := [] }]
        cause := s.cause ||| 0x01 } : State).LineFreed t
      ends .commandSent .done ∧
      (x.interruptTaken = false → x.allowed ≤ x.used → ends .contention .noAnswer)) ∧
    (x.source = .census → x.shape = .noAnswer →
      ∃ t, exec .commandSent s = .next t ∧ ({ s with dismissOwed := false, failures := 0 } : State).RoundOver t) ∧
    (x.shape = .field → exec .commandSent s = .next { s with exchange := some { x with phase := .field } }) ∧
    (x.shape.expectsAnswer = true → exec .commandSent s = .next { s with exchange := some { x with phase := .reply } })) ∧
  (∀ (s : State) (x : Exchange), s.Running → s.lineState = .busy → s.exchange = some x → x.source = .clearDismiss →
    x.shape = .noAnswer → x.phase = .command →
    ∃ t, exec .commandSent s = .next t ∧
      t = ({ s with lineState := .idle, exchange := none, yield := t.yield } : State).finishClear)

/-! ## The completion ring (chapter 7) -/

/-- RETIRE removes the head record, and posts into the freed slot the first waiting item of the posting order (R143,
R153, R154): a verdict, then the census slot, then the stores by address and by slot. -/
def Obligations.RetirePostsInOrder : Prop :=
  ∀ s : State, s.Open →
    (s.ring = [] → Refuses .retire s 0x0F) ∧
    (∀ head rest, s.ring = head :: rest →
      (s.waiting = 0 → exec .retire s = .next { s with ring := rest, result := 0, resultArg := 0 }) ∧
      (∀ r v, s.queue.find? Request.verdictWaits = some r → r.verdict = some v → exec .retire s = .next { s with
        queue := s.queue.eraseP Request.verdictWaits
        ring := rest ++ [.request {
            address := r.address, ticket := r.ticket, result := v, reason := 0,
            attempts := r.attempts, abortRequested := r.abortRequested, waits := r.waits, payload := [] }]
        cause := s.cause ||| 0x01, result := 0, resultArg := 0 }) ∧
      (s.queue.find? Request.verdictWaits = none →
        (∀ e, s.censusSlot = some e → exec .retire s = .next { s with
          censusSlot := none, ring := rest ++ [.event e], cause := s.cause ||| 0x01, result := 0, resultArg := 0 }) ∧
        (∀ a : Addr, s.censusSlot = none → (∀ b : Addr, b < a → s.store b = Store.empty) →
          (∀ e, (s.store a).status = some e → exec .retire s = .next { s with
            stores := s.stores.set a.val { s.store a with status := none }
            roster := (match e.data with
              | .attention _ => s.roster.set a.val { s.entry a with attention := .reported }
              | _ => s.roster)
            ring := rest ++ [.event e], cause := s.cause ||| 0x01, result := 0, resultArg := 0 }) ∧
          (∀ e, (s.store a).status = none → (s.store a).condition = some e →
            (∀ c, e.data ≠ .attention c) → exec .retire s = .next { s with
              stores := s.stores.set a.val { s.store a with condition := none }
              ring := rest ++ [.event e], cause := s.cause ||| 0x01, result := 0, resultArg := 0 }) ∧
          (∀ e c, (s.store a).status = none → (s.store a).condition = none → (s.store a).attention = some e →
            e.data = .attention c → exec .retire s = .next { s with
              stores := s.stores.set a.val { s.store a with attention := none }
              roster := s.roster.set a.val { s.entry a with attention := .reported }
              ring := rest ++ [.event e], cause := s.cause ||| 0x01, result := 0, resultArg := 0 }))))

/-- An event that is raised posts at once where records plus reservations stand below 16 and nothing waits, and
otherwise begins to wait in its kind's place; CAUSE.BACKLOG is set when nothing waited before (R147, R148, R149, R150,
R151, R156). -/
def Obligations.EventPostsOrWaits : Prop :=
  ∀ (s : State) (e : EventRecord),
    (s.occupancy < 16 → s.waiting = 0 →
      s.raise e = { s with ring := s.ring ++ [.event e], cause := s.cause ||| 0x01 }) ∧
    (16 ≤ s.occupancy ∨ s.waiting ≠ 0 →
      let cause := if s.waiting = 0 then s.cause ||| 0x80 else s.cause
      (e.address = none → s.raise e = { s with censusSlot := some e, cause := cause }) ∧
      (∀ a : Addr, e.address = some a → s.raise e = { s with cause := cause, stores := s.stores.set a.val (
        match e.data with
        | .condition _ => { s.store a with condition := some e }
        | .attention _ => { s.store a with attention := some e }
        | _ => { s.store a with status := some e }) }))

/-! ## The roster (chapter 1) -/

/-- RELEASE (R16, R94, R132, R133): its refusals; then the requests for the address that have no verdict and are not ON-LINE
receive RELEASED, each posted at once or left waiting; the entry's negotiation ends, and a commit that waits behind it is
copied; its address leaves the FIFO; its attention slot is emptied and the other two kept; the entry becomes RELEASING
with its attention state NONE and its due flag clear, and keeps its other fields. -/
def Obligations.ReleaseChecksAndEffects : Prop :=
  (∀ s : State, s.Open →
    (s.args[0] = 0 ∨ 24 < s.args[0].toNat → Refuses .release s 0x0A) ∧
    (∀ a : Addr, s.args[0] = BitVec.ofNat 8 a.number →
      (s.entry a).state = .free ∨ (s.entry a).state = .releasing → Refuses .release s 0x10)) ∧
  (∀ (s : State) (a : Addr), s.Open → s.args[0] = BitVec.ofNat 8 a.number → s.fifo.Nodup →
    (s.queue.map Request.ticket).Nodup → (s.entry a).state ≠ .free → (s.entry a).state ≠ .releasing →
    let told := s.withVerdicts a .released
    let ends := s.negotiation.map Negotiation.address = some a
    ∃ t, exec .release s = .next t ∧ t = { told with
        roster := s.roster.set a.val { s.entry a with state := .releasing, attention := .none, due := false }
        stores := s.stores.set a.val { s.store a with attention := none }
        fifo := s.fifo.erase a
        negotiation := if ends then none else s.negotiation
        active := if ends ∧ s.commitPending = true then s.shadow else s.active
        commitPending := if ends then false else s.commitPending
        cause := told.cause ||| (if ends ∧ s.commitPending = true then 0x04 else 0), result := 0, resultArg := 0 } ∧
      a ∉ t.fifo ∧ (∀ r ∈ t.queue, r.address = some a → r.verdict ≠ none ∨ r.phase = .onLine) ∧
      (∀ r ∈ s.queue, r.address ≠ some a → r ∈ t.queue) ∧
      (∀ r ∈ s.queue, r.address = some a → r.phase = .held → r.verdict = none → r ∉ t.queue ∧ .request {
          address := some a, ticket := r.ticket, result := .released, reason := 0, attempts := r.attempts,
          abortRequested := r.abortRequested, waits := r.waits, payload := [] } ∈ t.ring) ∧
      (∀ r ∈ s.queue, r.address = some a → r.phase = .unstarted → r.verdict = none → s.freeSlots = 0 →
        { r with verdict := some .released } ∈ t.queue))

/-- The end of a RELEASE exchange (R10, R19, R45; an answer or an expired window is taken from COMMAND too, log 7): ACK,
REFUSE and attempts exhausted, by contention, without an answer or by a response that is not accepted, free the entry,
which raises RELEASED with the unit number it held, with answered yes for ACK alone; WAIT leaves the entry RELEASING in
hold-off. On a draining line too an ACK or a REFUSE frees the entry, and a failed attempt leaves it RELEASING (R162). -/
def Obligations.ReleaseExchangeFreesTheEntry : Prop :=
  ∀ (s : State) (x : Exchange) (a : Addr), s.Open → s.lineState = .busy ∨ s.lineState = .draining →
    s.exchange = some x → x.discard = false → x.source = .release → x.shape = .release → x.frame.kind = .release →
    x.frame.address = some a → x.phase = .command ∨ x.phase = .reply → s.occupancy < 16 → s.waiting = 0 →
    let ends (c : Instr) (v : State) : Prop := ∃ t, exec c s = .next t ∧ v.LineFreed t
    let answers (answer : Answer) : State → Prop := ends (.responseFrame (answer.wire x.sentToggle) .recessive)
    let freed (answered : Bool) : State := { s with
      roster := s.roster.set a.val Entry.empty, fifo := s.fifo.erase a
      ring := s.ring ++ [.event { address := some a, unit := (s.entry a).unit, data := .released answered }]
      cause := s.cause ||| 0x01 }
    answers (.ack []) (freed true) ∧
    (∀ reason : BitVec 4, reason ≠ 0 → answers (.refuse reason) (freed false)) ∧
    answers .wait { s with roster := s.roster.set a.val { s.entry a with holdOff := some s.holdOffTime.toNat } } ∧
    ∀ c reason, x.FailsBy c reason →
      (x.interruptTaken = false → x.allowed ≤ x.used → ends c (freed false)) ∧ (x.interruptTaken = true → ends c s)

/-- RENEGOTIATE (R20): an ACTIVE or REFUSED entry becomes PENDING with its due flag clear and its address appended to
the FIFO, and everything else is kept; every other entry and every other address is refused. -/
def Obligations.RenegotiateReturnsToPending : Prop :=
  ∀ s : State, s.Open →
    (s.args[0] = 0 ∨ 24 < s.args[0].toNat → Refuses .renegotiate s 0x0A) ∧
    (∀ a : Addr, s.args[0] = BitVec.ofNat 8 a.number →
      ((s.entry a).state ≠ .active → (s.entry a).state ≠ .refused → Refuses .renegotiate s 0x10) ∧
      ((s.entry a).state = .active ∨ (s.entry a).state = .refused → exec .renegotiate s = .next { s with
        roster := s.roster.set a.val { s.entry a with state := .pending, due := false }
        fifo := if a ∈ s.fifo then s.fifo else s.fifo ++ [a]
        result := 0, resultArg := 0 }))

/-- BIND (R14, R69): its checks in their order, and the row it writes. -/
def Obligations.BindChecksAndWrites : Prop :=
  ∀ s : State, s.Open →
    let u := unitOfBytes s.args[1] s.args[2] s.args[3] s.args[4] s.args[5]
    (s.args[0] = 0 ∨ 24 < s.args[0].toNat ∨ u = 0xFFFFFFFFFF → Refuses .bind s 0x0A) ∧
    (∀ a : Addr, s.args[0] = BitVec.ofNat 8 a.number → u ≠ 0xFFFFFFFFFF →
      let stands := ∃ i : Fin 8, s.bindings[i.val] = some { address := a, unit := u }
      let half := ∃ i : Fin 8, ∃ b, s.bindings[i.val] = some b ∧ (b.address = a ∨ b.unit = u)
      let held := ∃ b : Addr, (s.entry b).state ≠ .free ∧ ((b = a ∧ (s.entry b).unit ≠ u) ∨ (b ≠ a ∧ (s.entry b).unit = u))
      let claimed := ∃ v b rejoin, s.round = some (.claim v b rejoin) ∧ ((b = a ∧ v ≠ u) ∨ (b ≠ a ∧ v = u))
      let waits := ∃ e, e.unit ≠ u ∧ ((s.store a).status = some e ∨ (s.store a).condition = some e ∨
        (s.store a).attention = some e)
      (stands → exec .bind s = .next { s with result := 0, resultArg := 0 }) ∧
      (¬stands → half ∨ held ∨ claimed ∨ waits → Refuses .bind s 0x11) ∧
      (¬half → ¬held → ¬claimed → ¬waits →
        ((∀ i : Fin 8, s.bindings[i.val] ≠ none) → Refuses .bind s 0x12) ∧
        (∀ i : Fin 8, s.bindings[i.val] = none → (∀ j : Fin 8, j < i → s.bindings[j.val] ≠ none) →
          exec .bind s = .next { s with
            bindings := s.bindings.set i.val (some { address := a, unit := u }), result := 0, resultArg := 0 })))

/-- UNBIND (R15): its checks in their order; the row that holds the address becomes unused, and the other rows, and the
entry that holds the address, are kept; from then on no row holds the address or its unit. -/
def Obligations.UnbindFreesTheRow : Prop :=
  (∀ s : State, s.Running → s.clearing = true → Refuses .unbind s 0x02) ∧
  (∀ s : State, s.Open →
    (s.args[0] = 0 ∨ 24 < s.args[0].toNat → Refuses .unbind s 0x0A) ∧
    (∀ a : Addr, s.args[0] = BitVec.ofNat 8 a.number →
      ((∀ i : Fin 8, ∀ b, s.bindings[i.val] = some b → b.address ≠ a) → Refuses .unbind s 0x13) ∧
      (∀ (i : Fin 8) (b : Binding), s.BindingRowsLaw → s.bindings[i.val] = some b → b.address = a →
        ∃ t, exec .unbind s = .next t ∧
          t = { s with bindings := s.bindings.set i.val none, result := 0, resultArg := 0 } ∧
          ∀ j : Fin 8, ∀ c, t.bindings[j.val] = some c → c.address ≠ a ∧ c.unit ≠ b.unit)))

/-- The end of a hold-off (R3): the entry's hold-off becomes none, in every line state, and nothing else changes. On an empty
queue half a millisecond passes (the model's choice, log 1), here in OFF, where the tick timer and the auto-census timer
hold (R71, R98, R163): every running hold-off counts down by one unit. -/
def Obligations.HoldOffsEnd : Prop :=
  (∀ (s : State) (a : Addr), s.Running → exec (.holdOffEnd a.number) s =
    .next { s with roster := s.roster.set a.val { s.entry a with holdOff := none } }) ∧
  (∀ s : State, s.pending = [] → s.Running → s.lineState = .off →
    ∃ t, step s = .next t ∧ t = { s with roster := t.roster } ∧
      ∀ a : Addr, t.entry a = { s.entry a with
        holdOff := match (s.entry a).holdOff with
          | none => none
          | some n => if n ≤ 1 then none else some (n - 1) })

/-! ## Negotiation (chapter 4) -/

/-- A COMMIT OFFER that passes its checks (R93): the shadow is copied at once with CAUSE.COMMIT, or the commit is pending
behind a negotiation in progress, whose active copy is kept. -/
def Obligations.CommitOfferByNegotiation : Prop :=
  ∀ s : State, s.Open → s.commitPending = false → s.shadow.valid = true →
    (s.negotiation = none → exec .commitOffer s =
      .next { s with active := s.shadow, cause := s.cause ||| 0x04, result := 0, resultArg := 0 }) ∧
    (s.negotiation ≠ none → exec .commitOffer s =
      .next { s with commitPending := true, result := 0, resultArg := 0 })

/-- The checks of COMMIT OFFER in their order, with the validity of the shadow in the words of R92; a refused one changes
neither copy, and one that passes is taken in every line state. -/
def Obligations.CommitOfferChecks : Prop :=
  (∀ s : State, s.Running → s.clearing = true → Refuses .commitOffer s 0x02) ∧
  (∀ s : State, s.Open →
    (s.commitPending = true → Refuses .commitOffer s 0x15) ∧
    (s.commitPending = false →
      let count := s.shadow.count
      let kind (k : Nat) : PageKind := pageKind (s.shadow.word k)
      let plains (k : Nat) : Nat := pagePlains (s.shadow.word k)
      let valid : Prop :=
        (1 ≤ count ∧ count ≤ 8) ∧ (kind 0 = .base ∧ ∃ c, pageOffersPoll (s.shadow.word 0) c = true) ∧
        (∀ k, 1 ≤ k → k < count → kind k ≠ .base) ∧ (∀ k < count, kind k ≠ .invalid) ∧
        (∀ k < count, kind k = .message →
          (∀ j, 1 ≤ j → j ≤ plains k → k + j < count ∧ kind (k + j) = .plain) ∧
          (k + plains k + 1 < count → kind (k + plains k + 1) ≠ .plain)) ∧
        (∀ k < count, kind k = .plain → ∃ m < k, kind m = .message ∧ k ≤ m + plains m)
      (valid → ∃ t, exec .commitOffer s = .next t ∧ t.result = 0x00) ∧
      (¬valid → Refuses .commitOffer s 0x14)))

/-- A page word is read in the layout of R192: bit 15 more, bits 14-13 the kind, bit 12 agree; in a BASE page bits 11-10
the length class, bits 9 to 6 the poll classes 8, 4, 2 and 1, bit 5 attention, bit 4 confirm; in a MESSAGE page bits
11-6 the code and bits 5-3 the plain count; and a copy of the offer as its row (R75, R76, R193): the count in byte 0,
then for each slot the word, high byte first, and a flags byte whose bit 0 binds, but in no slot at or above the count;
that a NULL page inside the count does not bind either, whatever its flag (R76 against R75 and R80), is the model's
choice (log 22). The terms resolved from the two BASE pages and from the node's messages (R74, R87): the smaller payload
limit, the poll class with the fewest ticks in both sets, and yes only where both say yes, and no terms exactly where
the poll sets have no class in common; the device class of the last PROFILE that has its plain, and the object range of
the last OBJECTS that has both, clamped to 255, or absent where none has (a later message that lacks its plains gives
nothing, and of more plains the first count, log 11). -/
def Obligations.PageWordsAndResolvedTerms : Prop :=
  (∀ w : PageWord,
    pageMore w = w.getLsbD 15 ∧ pageAgree w = w.getLsbD 12 ∧
    pageKind w = (match w.toNat / 8192 % 4 with | 0 => .base | 1 => .message | 2 => .plain | _ => .invalid) ∧
    pageLengthClass w = (match w.toNat / 1024 % 4 with | 0 => .bytes4 | 1 => .bytes8 | 2 => .bytes12 | _ => .bytes16) ∧
    pageOffersPoll w .ticks8 = w.getLsbD 9 ∧ pageOffersPoll w .ticks4 = w.getLsbD 8 ∧
    pageOffersPoll w .ticks2 = w.getLsbD 7 ∧ pageOffersPoll w .ticks1 = w.getLsbD 6 ∧
    pageAttention w = w.getLsbD 5 ∧ pageConfirm w = w.getLsbD 4 ∧
    pageCode w = w.toNat / 64 % 64 ∧ pagePlains w = w.toNat / 8 % 8) ∧
  (∀ offer : Offer, offer.count = (offer.toList.getD 0 0).toNat ∧
    ∀ k : Fin 8,
      offer.word k.val = offer.toList.getD (1 + 3 * k.val) 0 ++ offer.toList.getD (2 + 3 * k.val) 0 ∧
      (offer.binding k.val = true ↔ k.val < offer.count ∧ (offer.toList.getD (3 + 3 * k.val) 0).getLsbD 0 = true ∧
        ¬(pageKind (offer.word k.val) = .message ∧ pageCode (offer.word k.val) = 0))) ∧
  (∀ node own : PageWord,
    (resolveTerms node own = none ↔ ∀ c, ¬(pageOffersPoll node c = true ∧ pageOffersPoll own c = true)) ∧
    ∀ t, resolveTerms node own = some t →
      t.payloadLimit.bytes = min (pageLengthClass node).bytes (pageLengthClass own).bytes ∧
      pageOffersPoll node t.pollClass = true ∧ pageOffersPoll own t.pollClass = true ∧
      (∀ c, pageOffersPoll node c = true → pageOffersPoll own c = true → t.pollClass.ticks ≤ c.ticks) ∧
      t.attention = (pageAttention node && pageAttention own) ∧ t.confirm = (pageConfirm node && pageConfirm own)) ∧
  (∀ pages : List PageWord,
    let found := interpretPages { deviceClass := none, objects := none } pages
    let gives (code need k : Nat) : Prop := ∃ m, pages[k]? = some m ∧ pageKind m = .message ∧ pageCode m = code ∧
      need ≤ pagePlains m ∧ ∀ j, 1 ≤ j → j ≤ need → pageKind (pages.getD (k + j) 0) = .plain
    let value (k : Nat) : Nat := (pages.getD k 0).toNat % 4096
    (∀ k, gives 1 1 k → (∀ j, k < j → ¬gives 1 1 j) → found.deviceClass = some (BitVec.ofNat 12 (value (k + 1)))) ∧
    ((∀ k, ¬gives 1 1 k) → found.deviceClass = none) ∧
    (∀ k, gives 2 2 k → (∀ j, k < j → ¬gives 2 2 j) → found.objects = some {
      lowest := BitVec.ofNat 8 (min 255 (value (k + 1))), highest := BitVec.ofNat 8 (min 255 (value (k + 2))) }) ∧
    ((∀ k, ¬gives 2 2 k) → found.objects = none))

/-- A grant to NEGOTIATE (R50, R73, R76, R78, R79, R164; the level is the event's operand, log 6): with no negotiation in
progress the FIFO head becomes NEGOTIATING with its page list cleared, and index 0 is sent; otherwise the next index is
sent. Below the count the page is the slot's word with more while further slots follow, agree yes and the positions its
kind does not use 0, and a NULL word has plain count 0 (log 22); from the count on it is NULL with more no and agree
yes. -/
def Obligations.GrantStartsNegotiation : Prop :=
  ∀ (s : State) (mda : Level), s.Granting → s.releaseReady = false → s.censusReady = false →
    (s.dispatchReady = true → s.passOver < 8) →
    let page (i : Nat) : PageWord :=
      let w := s.active.word i
      if i < s.active.count then (if i + 1 < s.active.count then 0x8000 else 0) ||| 0x1000 ||| (match pageKind w with
        | .base => w &&& 0x6FF0
        | .message => if pageCode w = 0 then 0x2000 else w &&& 0x6FF8
        | _ => w &&& 0x6FFF)
      else 0x3000
    let sent (a : Addr) (i : Nat) : State := { s with
      lineState := .busy, yield := false, passOver := if s.dispatchReady then s.passOver + 1 else s.passOver
      lineRateInForce := if mda = .recessive then s.lineRate else s.lineRateInForce
      exchange := some {
        source := .negotiate
        frame := {
          address := some a, toggle := (s.entry a).toggle, kind := .page, ackFlag := false
          payload := wordBytes (page i) ++ [BitVec.ofNat 8 i] }
        sentToggle := (s.entry a).toggle, shape := .page i, allowed := 1 + s.retryLimit.toNat
        used := if mda = .recessive then 1 else 0, phase := if mda = .recessive then .command else .lineCheck
        lastFailure := none, interruptTaken := false, discard := false } }
    (∀ (a : Addr) (rest : List Addr), s.negotiation = none → s.commitPending = false → s.fifo = a :: rest →
      (s.entry a).holdOff = none → exec (.lineGrant mda) s = .next { sent a 0 with
        fifo := rest, negotiation := some { address := a, next := 0, restarts := 0, waits := 0 }
        roster := s.roster.set a.val { s.entry a with state := .negotiating, due := false, pages := [] } }) ∧
    (∀ n : Negotiation, s.negotiation = some n → (s.entry n.address).holdOff = none →
      exec (.lineGrant mda) s = .next (sent n.address n.next))

/-- The end of a PAGE at index i (R34, R80 to R85, R87 to R90, R91, R94, R192; taken from COMMAND too, log 7). A page is read
with the positions its kind does not use as 0, also in the check test (log 29). A page of an invalid kind, one that is not
BASE at index 0 and a BASE page later are protocol errors, as is REFUSE and the WAIT at the limit: the negotiation restarts,
and at restart count 2 it fails with PROTOCOL. A page that disagrees with a binding one fails it with NOT_AGREED, a page
beyond eight with PAGES_OVERFLOW. Otherwise the page is kept, unless it is NULL. Where a further exchange is due the next
index follows, and index 16 fails with PAGES_OVERFLOW; where none is due the terms are resolved: the entry is ACTIVE with
its terms, device class and object range, JOINED is raised and its requests above the payload limit receive TOO_LONG, others
outside the range OUT_OF_RANGE; or it fails with NO_POLL_CLASS. A failure leaves the entry REFUSED and raises REFUSED, and
its requests receive NODE_REFUSED. Attempts exhausted leave the entry LOST and raise LOST, and its requests receive
NODE_LOST. On a draining line any end abandons the negotiation: the entry is PENDING at the FIFO head. Each of these ends
copies a commit that is pending. Where the negotiation has been abandoned already, as by a RELEASE, the end is discarded:
ACK and REFUSE flip the toggle, WAIT starts the hold-off, and nothing else changes (R17, R86). -/
def Obligations.NodePageIsJudged : Prop :=
  (∀ (s : State) (x : Exchange) (a : Addr) (sent : PageWord) (n : Negotiation), s.Carries x → x.source = .negotiate →
    x.shape = .page n.next → n.next < 16 → x.frame.kind = .page → x.frame.address = some a →
    x.phase = .command ∨ x.phase = .reply → s.negotiation = some n → n.address = a → n.restarts ≤ 2 →
    (s.queue.map Request.ticket).Nodup → s.occupancy < 16 → s.waiting = 0 →
    let w : PageWord := match pageKind sent with
      | .base => sent &&& 0xFFF0
      | .message => sent &&& 0xFFF8
      | .plain | .invalid => sent
    let ends (c : Instr) (v : State) : Prop := ∃ t, exec c s = .next t ∧ v.LineFreed t
    let answered : Entry := { s.entry a with toggle := !(s.entry a).toggle, misses := 0 }
    let heldOff : Entry := { s.entry a with holdOff := some s.holdOffTime.toNat }
    let after (e : Entry) (next : Option Negotiation) : State :=
      { s with negotiation := next, roster := s.roster.set a.val e }
    let raised (v : State) (data : EventData) : State := { v with
      ring := v.ring ++ [.event { address := some a, unit := (s.entry a).unit, data := data }]
      cause := v.cause ||| 0x01 }
    let fails (c : Instr) (reason : RefusalReason) (e : Entry) : Prop := ends c
      ((raised (after { e with state := .refused, due := false } none) (.refused reason)).withVerdicts
        a .nodeRefused).withCommitCopied
    let protocolError (c : Instr) (e : Entry) : Prop :=
      (n.restarts < 2 →
        ends c (after { e with pages := [] } (some { n with restarts := n.restarts + 1, next := 0, waits := 0 }))) ∧
      (n.restarts = 2 → fails c .protocol e)
    let ack : Instr := .responseFrame (((Answer.ack (wordBytes w ++ [BitVec.ofNat 8 n.next])).wire x.sentToggle).set 3
      (sent.extractLsb' 0 8)) .recessive
    let wait : Instr := .responseFrame (Answer.wait.wire x.sentToggle) .recessive
    let null : Prop := pageKind w = .message ∧ pageCode w = 0
    let misplaced : Prop := pageKind w = .invalid ∨ (n.next = 0 ↔ pageKind w ≠ .base)
    let disagrees : Prop := 0 < n.next ∧ s.active.binding (n.next - 1) = true ∧ pageAgree w = false
    let tooMany : Prop := ¬null ∧ 8 ≤ (s.entry a).pages.length
    let pages : List PageWord :=
      if pageKind w = .message ∧ pageCode w = 0 then (s.entry a).pages else (s.entry a).pages ++ [w]
    let kept : Entry := { answered with pages := pages }
    let found := interpretPages { deviceClass := none, objects := none } pages
    let further : Prop := n.next + 1 < s.active.count ∨ pageMore w = true ∨ s.active.binding n.next = true
    (misplaced → protocolError ack answered) ∧
    (¬misplaced → disagrees → fails ack .notAgreed answered) ∧
    (¬misplaced → ¬disagrees → tooMany → fails ack .pagesOverflow answered) ∧
    (¬misplaced → ¬disagrees → ¬tooMany →
      (further → n.next < 15 → ends ack (after kept (some { n with next := n.next + 1, waits := 0 }))) ∧
      (further → n.next = 15 → fails ack .pagesOverflow kept) ∧
      (¬further → resolveTerms (pages.headD 0) (s.active.word 0) = none → fails ack .noPollClass kept) ∧
      (∀ terms, ¬further → resolveTerms (pages.headD 0) (s.active.word 0) = some terms →
        let resolved : Entry := { kept with
          state := .active, terms := some terms, deviceClass := found.deviceClass, objects := found.objects }
        ends ack ((raised (after resolved none) (.joined terms found.deviceClass)).withVerdictsBy fun r =>
          if r.address ≠ some a then none
          else if terms.payloadLimit.bytes < r.length then some .tooLong
          else if found.objects.any fun g => decide (r.object < g.lowest ∨ g.highest < r.object) then some .outOfRange
          else none).withCommitCopied)) ∧
    (n.waits + 1 < s.waitLimit.toNat → ends wait (after heldOff (some { n with waits := n.waits + 1 }))) ∧
    (s.waitLimit.toNat ≤ n.waits + 1 → protocolError wait heldOff) ∧
    (∀ reason : BitVec 4, reason ≠ 0 →
      protocolError (.responseFrame ((Answer.refuse reason).wire x.sentToggle) .recessive) answered) ∧
    (x.allowed ≤ x.used → ∀ c reason, x.FailsBy c reason →
      let told := s.withVerdicts a .nodeLost
      told.occupancy < 16 → told.waiting = 0 → ends c (raised { told with
        negotiation := none
        roster := s.roster.set a.val { s.entry a with state := .lost, holdOff := none } } .lost).withCommitCopied)) ∧
  (∀ (s : State) (x : Exchange) (a : Addr) (index : Nat), s.Open → s.exchange = some x → x.discard = false →
    x.source = .negotiate → x.shape = .page index → x.frame.kind = .page → x.frame.address = some a →
    x.phase = .command ∨ x.phase = .reply →
    let answered : Entry := { s.entry a with toggle := !(s.entry a).toggle, misses := 0 }
    let heldOff : Entry := { s.entry a with holdOff := some s.holdOffTime.toNat }
    let becomes (e : Entry) : State := { s with roster := s.roster.set a.val e }
    let answer (answer : Answer) : Instr := .responseFrame (answer.wire x.sentToggle) .recessive
    let always (ends : Instr → State → Prop) : Prop :=
      (∀ w : PageWord, unusedAreZero x.shape (wordBytes w) = true →
        ends (answer (.ack (wordBytes w ++ [BitVec.ofNat 8 index]))) (becomes answered)) ∧
      (∀ reason : BitVec 4, reason ≠ 0 → ends (answer (.refuse reason)) (becomes answered)) ∧
      ends (answer .wait) (becomes heldOff) ∧
      (∀ c reason, x.FailsBy c reason → x.interruptTaken = true ∨ x.allowed ≤ x.used → ends c s)
    (s.lineState = .draining → x.interruptTaken = true → s.negotiation.map Negotiation.address = some a →
      always fun c v => exec c s = .next v.withNegotiationAbandoned.switchedOff) ∧
    (s.lineState = .busy ∨ s.lineState = .draining → s.negotiation.map Negotiation.address ≠ some a →
      always fun c v => ∃ t, exec c s = .next t ∧ v.LineFreed t))

/-! ## The sweep (chapter 5) -/

/-- A sweep tick in a counting line state (R98, R99): the counter rises, the timer restarts from the full interval (in
half milliseconds, log 20), ACTIVE entries are marked by poll class and LOST ones on every 16th tick, and marks that
stand are kept. -/
def Obligations.SweepTickMarksDue : Prop :=
  ∀ s : State, s.Running → s.lineState = .idle ∨ s.lineState = .busy ∨ s.lineState = .draining →
    ∃ t, exec .sweepTick s = .next t ∧ t = { s with
        tickCounter := s.tickCounter + 1, tickTimer := 2 * s.sweepInterval.toNat, roster := t.roster } ∧
      ∀ a : Addr, t.entry a = { s.entry a with due := (t.entry a).due } ∧
        ((t.entry a).due = true ↔ (s.entry a).due = true ∨
          ((s.entry a).state = .active ∧ ∃ terms, (s.entry a).terms = some terms ∧
            ((s.tickCounter + 1).toNat + a.number) % terms.pollClass.ticks = 0) ∨
          ((s.entry a).state = .lost ∧ ((s.tickCounter + 1).toNat + a.number) % 16 = 0))

/-- A grant to SWEEP (R50, R100, R101, R164; the level is the event's operand, log 6): the first due entry, not in
hold-off, in the search from the one after the round-robin pointer is polled, the pointer is set to it, and the
acknowledge flag is set in REPORTED alone. -/
def Obligations.GrantPollsTheNextDueEntry : Prop :=
  ∀ (s : State) (a : Addr) (mda : Level), s.Granting → s.releaseReady = false → s.censusReady = false →
    s.negotiateReady = false → (s.dispatchReady = true → s.passOver < 8) → (s.entry a).due = true →
    (s.entry a).holdOff = none →
    (∀ b : Addr, (s.entry b).due = true → (s.entry b).holdOff = none →
      (a.val + 48 - s.sweepPointer.val) % 24 ≤ (b.val + 48 - s.sweepPointer.val) % 24) →
    exec (.lineGrant mda) s = .next { s with
      lineState := .busy, yield := false
      lineRateInForce := if mda = .recessive then s.lineRate else s.lineRateInForce
      passOver := if s.dispatchReady then s.passOver + 1 else s.passOver
      sweepPointer := a.succ
      exchange := some {
        source := .sweep
        frame := {
          address := some a, toggle := (s.entry a).toggle, kind := .poll
          ackFlag := decide ((s.entry a).attention = .reported), payload := [] }
        sentToggle := (s.entry a).toggle, shape := .poll, allowed := 1 + s.retryLimit.toNat
        used := if mda = .recessive then 1 else 0, phase := if mda = .recessive then .command else .lineCheck
        lastFailure := none, interruptTaken := false, discard := false } }

/-- An accepted ACK to a POLL (R7, R34, R102, R103, R104, R110, R147, R156; it is taken from COMMAND too, log 7): the toggle
flips, the miss count is 0 and the due flag clear; a LOST entry returns, ACTIVE with its old terms or, without terms,
PENDING in the FIFO, and BACK is raised; an acknowledge sent makes the attention state NONE; a changed condition is stored
and reported, and then a new attention report. Of these events the first post while a slot is free; the later ones wait in
the slots of the address, CAUSE.BACKLOG is set where nothing waited, and an attention report that waits leaves the attention
state HELD in place of REPORTED. An accepted WAIT starts the hold-off and keeps the due flag and all else (R3, R106). Both
hold on a draining line too (R162). Of an entry that has become RELEASING every end is discarded: ACK and REFUSE flip the
toggle and WAIT starts the hold-off, and a failed attempt that ends the exchange changes nothing (R17; that the miss count
is kept, which R34 and R107 set to 0, is the model's choice, log 9). -/
def Obligations.PollAnswerIsApplied : Prop :=
  ∀ (s : State) (x : Exchange) (a : Addr), s.Open → s.lineState = .busy ∨ s.lineState = .draining →
    s.exchange = some x → x.discard = false → x.source = .sweep → x.shape = .poll → x.frame.kind = .poll →
    x.frame.address = some a → x.phase = .command ∨ x.phase = .reply →
    let e := s.entry a
    let event (data : EventData) : EventRecord := { address := some a, unit := e.unit, data := data }
    let ends (c : Instr) (v : State) : Prop := ∃ t, exec c s = .next t ∧ v.LineFreed t
    let answers (answer : Answer) : State → Prop := ends (.responseFrame (answer.wire x.sentToggle) .recessive)
    let becomes (e : Entry) : State := { s with roster := s.roster.set a.val e }
    (∀ (code : Byte) (c : Condition), e.state ≠ .releasing → c ≠ .unknown →
      let standing := if x.frame.ackFlag then AttentionState.none else e.attention
      let reports := decide (code ≠ 0) && e.terms.any (fun t => t.attention) && decide (standing = .none)
      let raised := (if e.state = .lost then [event .back] else []) ++
        (if c = e.condition then [] else [event (.condition c)]) ++ (if reports then [event (.attention code)] else [])
      let waits := raised.drop s.freeSlots
      answers (.ack [code, c.code]) { s with
        roster := s.roster.set a.val { e with
          state := if e.state = .lost then (if e.terms.isSome then .active else .pending) else e.state
          toggle := !e.toggle, misses := 0, due := false, condition := c
          attention := if !reports then standing else if event (.attention code) ∈ waits then .held else .reported }
        fifo := if e.state = .lost ∧ e.terms = none ∧ a ∉ s.fifo then s.fifo ++ [a] else s.fifo
        ring := s.ring ++ (raised.take s.freeSlots).map .event
        stores := s.stores.set a.val {
          status := if event .back ∈ waits then some (event .back) else (s.store a).status
          condition := if event (.condition c) ∈ waits then some (event (.condition c)) else (s.store a).condition
          attention := if event (.attention code) ∈ waits then some (event (.attention code)) else (s.store a).attention }
        cause := s.cause ||| (if raised.take s.freeSlots = [] then 0 else 0x01) |||
          (if s.waiting = 0 ∧ waits ≠ [] then 0x80 else 0) }) ∧
    answers .wait (becomes { e with holdOff := some s.holdOffTime.toNat }) ∧
    (e.state = .releasing →
      (∀ (code : Byte) (c : Condition), c ≠ .unknown → answers (.ack [code, c.code]) (becomes { e with toggle := !e.toggle })) ∧
      (∀ reason : BitVec 4, reason ≠ 0 → answers (.refuse reason) (becomes { e with toggle := !e.toggle })) ∧
      ∀ c reason, x.FailsBy c reason → x.interruptTaken = true ∨ x.allowed ≤ x.used → ends c s)

/-- A failed poll, which ends exhausted, by contention, without an answer or by a response that is not accepted, or with an
accepted REFUSE (R5, R34, R45, R105, R107, R108; an answer or an expired window is taken from COMMAND too, log 7): the due
flag is cleared and a miss is counted, at most to 15, after a REFUSE from 0; at the miss limit an ACTIVE entry becomes LOST
with its hold-off none, its requests receive NODE_LOST and LOST is raised; a LOST entry keeps its miss count. REFUSE flips
the toggle. On a draining line no end but an accepted ACK clears the due flag or changes the miss count (R106, R111, R162;
that this holds of an accepted REFUSE too is log 24). A RELEASING entry's polls are in PollAnswerIsApplied (R17). -/
def Obligations.FailedPollCountsMiss : Prop :=
  ∀ (s : State) (x : Exchange) (a : Addr), s.Open → s.exchange = some x → x.discard = false → x.source = .sweep →
    x.shape = .poll → x.frame.kind = .poll → x.frame.address = some a → x.phase = .command ∨ x.phase = .reply →
    (s.entry a).state ≠ .releasing →
    let ends (c : Instr) (v : State) : Prop := ∃ t, exec c s = .next t ∧ v.LineFreed t
    let refuse (reason : BitVec 4) : Instr := .responseFrame ((Answer.refuse reason).wire x.sentToggle) .recessive
    let becomes (e : Entry) : State := { s with roster := s.roster.set a.val e }
    let fails (c : Instr) (e : Entry) : Prop :=
      let missed : Entry := { e with due := false, misses := min 15 (e.misses + 1) }
      let told := s.withVerdicts a .nodeLost
      (e.state ≠ .lost → (e.state = .active → missed.misses < s.missLimit.toNat) → ends c (becomes missed)) ∧
      (e.state = .active → s.missLimit.toNat ≤ missed.misses → (s.queue.map Request.ticket).Nodup →
        told.occupancy < 16 → told.waiting = 0 → ends c { told with
          roster := s.roster.set a.val { missed with state := .lost, holdOff := none }
          ring := told.ring ++ [.event { address := some a, unit := e.unit, data := .lost }]
          cause := told.cause ||| 0x01 }) ∧
      (e.state = .lost → ends c (becomes { e with due := false }))
    let e := s.entry a
    (s.lineState = .busy →
      (x.interruptTaken = false → x.allowed ≤ x.used → ∀ c reason, x.FailsBy c reason → fails c e) ∧
      ∀ reason : BitVec 4, reason ≠ 0 →
        fails (refuse reason) { e with toggle := !e.toggle, misses := if e.state = .lost then e.misses else 0 }) ∧
    (s.lineState = .draining → x.interruptTaken = true →
      (∀ c reason, x.FailsBy c reason → ends c s) ∧
      ∀ reason : BitVec 4, reason ≠ 0 → ends (refuse reason) (becomes { e with toggle := !e.toggle }))

/-- A write of SWEEPIVL (R97): 0 is stored as 1, the tick timer restarts from the full new interval (in half
milliseconds, log 20), and the tick counter and every due flag stay as they were. -/
def Obligations.SweepIntervalWrite : Prop :=
  ∀ (v : Byte) (s : State), s.Running → exec (.sweepivlWrite v) s =
    .next { s with sweepInterval := if v = 0 then 1 else v, tickTimer := 2 * (if v = 0 then 1 else v.toNat) }

/-- A write of MISSLIM (R109): the value is clamped into 1..15 and reads back, every ACTIVE entry at or above it is set to
one below, and every other entry keeps its count; hardware reset sets the limit to 3, and CLEAR keeps it. -/
def Obligations.MissLimitWrite : Prop :=
  (∀ (v : Byte) (s : State), s.Running →
    let limit : Byte := if v = 0 then 1 else if 15 < v then 15 else v
    ∃ t, exec (.misslimWrite v) s = .next t ∧ t = { s with missLimit := limit, roster := t.roster } ∧
      t.readRegister 0x1A = limit ∧
      ∀ a : Addr, t.entry a = { s.entry a with
        misses := if (s.entry a).state = .active ∧ limit.toNat ≤ (s.entry a).misses then limit.toNat - 1
          else (s.entry a).misses }) ∧
  State.reset.missLimit = 3 ∧
  ∀ s t : State, s.Running → (∃ mda, exec .clear s = .next t ∨ exec (.clearDismiss mda) s = .next t) ∨ t = s.finishClear →
    t.missLimit = s.missLimit

/-! ## The line engine and the arbiter (chapter 2) -/

/-- The arbiter's order among the ready sources (R50, R55): RELEASE, CENSUS, then DISPATCH at a pass-over count of 8, then
NEGOTIATE, SWEEP, DISPATCH; with none ready no grant is made. A RUNNING run without a round asks for the line, and the
yield holds it back while another source is ready (log 13). -/
def Obligations.GrantFollowsBaseOrder : Prop :=
  ∀ (s : State) (mda : Level), s.Granting → s.passOver ≤ 8 →
    let granted (source : Source) : Prop :=
      ∃ t x, exec (.lineGrant mda) s = .next t ∧ t.lineState = .busy ∧ t.exchange = some x ∧ x.source = source
    let asks : Prop := s.censusState = .running ∧ s.round = none
    let others : Prop := s.negotiateReady = true ∨ s.sweepReady = true ∨ s.dispatchReady = true
    (s.releaseReady = true → granted .release) ∧
    (s.releaseReady = false →
      (asks → s.yield = false ∨ ¬others → granted .census) ∧
      (¬asks ∨ (s.yield = true ∧ others) →
        (s.dispatchReady = true → s.passOver = 8 → granted .dispatch) ∧
        ((s.dispatchReady = true → s.passOver < 8) →
          (s.negotiateReady = true → granted .negotiate) ∧
          (s.negotiateReady = false →
            (s.sweepReady = true → granted .sweep) ∧
            (s.sweepReady = false →
              (s.dispatchReady = true → granted .dispatch) ∧
              (s.dispatchReady = false → exec (.lineGrant mda) s = .next s))))))

/-- A failed attempt with attempts left and no interruption begins a retry gap (R38, R39, R41): CONTENTION in the
command frame, a reply window that passes with no lead-in, and a response that is not accepted (the last two taken from
COMMAND too, log 7). A LINE CHECK that reads MDA recessive, at the end of the gap or in the clear-wait, makes the next
lead-in of the same frame, of whichever source, the CLEAR's DISMISS too (R171), at the rate then configured; one that
reads MDA dominant begins the clear-wait (R25, R164; the level is the event's operand, log 6, and the rate in force is
that of the lead-in, log 15). An attempt of an addressed frame carries the toggle its entry then holds, which the frame
keeps from its first attempt, and an all-call one carries 0 (R34, R35, R36, R41, R42); it counts as used, also in the
ON-LINE request, at most to 15 (R117, R122); a CLAIM's first attempt takes its attempts allowed from the retry limit
(R37). -/
def Obligations.RetryGapAndLineCheck : Prop :=
  ∀ (s : State) (x : Exchange), s.Running → s.lineState = .busy → s.exchange = some x → x.interruptTaken = false →
    (∀ a, x.frame.address = some a → x.frame.addressed = some a) →
    (x.frame.address = none → x.frame.toggle = false) →
    let toggle : Bool := match x.frame.address with | some a => (s.entry a).toggle | none => false
    let attempt : State := { s with
      lineRateInForce := s.lineRate
      queue := if x.source = .dispatch
        then updateFirst Request.isOnLine (fun q => { q with attempts := min 15 (q.attempts + 1) }) s.queue else s.queue
      exchange := some { x with
        phase := .command, used := x.used + 1
        allowed := if x.frame.kind = .claim ∧ x.used = 0 then 1 + s.retryLimit.toNat else x.allowed
        frame := if x.used = 0 then { x.frame with toggle := toggle } else x.frame
        sentToggle := toggle } }
    (x.used < x.allowed → ∀ c reason, x.FailsBy c reason →
      exec c s = .next { s with exchange := some { x with phase := .retryGap, lastFailure := some reason } }) ∧
    (x.phase = .retryGap → exec (.retryGapEnd .recessive) s = .next attempt ∧
      exec (.retryGapEnd .dominant) s = .next { s with exchange := some { x with phase := .lineCheck } }) ∧
    (x.phase = .lineCheck → exec .lineCheckCleared s = .next attempt)

/-- The grants to RELEASE and to CENSUS (R18, R36, R50, R55, R56, R57, R164; the level is the event's operand, log 6):
the lowest-addressed RELEASING entry that is not in hold-off is sent RELEASE, and a RUNNING run without a round, whose
yield is clear or meets no other ready source (log 13), sends its DISMISS while that is owed, and otherwise CENSUS. -/
def Obligations.GrantsToReleaseAndCensus : Prop :=
  ∀ (s : State) (mda : Level), s.Granting →
    let granted (source : Source) (frame : Frame) (shape : AnswerShape) (round : Option Round) : State := { s with
      lineState := .busy, yield := false, round := round
      lineRateInForce := if mda = .recessive then s.lineRate else s.lineRateInForce
      exchange := some {
        source := source, frame := frame, sentToggle := frame.toggle, shape := shape, allowed := 1 + s.retryLimit.toNat
        used := if mda = .recessive then 1 else 0, phase := if mda = .recessive then .command else .lineCheck
        lastFailure := none, interruptTaken := false, discard := false } }
    (∀ a : Addr, (s.entry a).state = .releasing → (s.entry a).holdOff = none →
      (∀ b : Addr, b < a → (s.entry b).state ≠ .releasing ∨ (s.entry b).holdOff ≠ none) →
      exec (.lineGrant mda) s = .next (granted .release
        { address := some a, toggle := (s.entry a).toggle, kind := .release, ackFlag := false, payload := [] }
        .release s.round)) ∧
    (s.releaseReady = false → s.censusState = .running → s.round = none → (s.yield = true → s.otherReady = false) →
      (s.dismissOwed = true → exec (.lineGrant mda) s = .next (granted .census
        { address := none, toggle := false, kind := .dismiss, ackFlag := false, payload := [] }
        .noAnswer (some .dismiss))) ∧
      (s.dismissOwed = false → exec (.lineGrant mda) s = .next (granted .census
        { address := none, toggle := false, kind := .census, ackFlag := false, payload := [] }
        .field (some .field))))

/-- A taken CLEAR by line state (R46, R68, R94, R170, R171, R172): it waits for its DISMISS on an IDLE line; on a BUSY or
DRAINING one it interrupts the attempt or field and marks its end for discard, and in RETRY GAP and LINE CHECK the exchange
ends at once; from OFF, FAULT and RECOVERING it empties the roster, FIFO, queue, ring and stores at once, keeping bindings,
offers and configuration and copying a pending commit. A discarded end, be it a failed attempt, an answer, a DISMISS or
all-call WRITE that is sent or a field, which leads to no assignment, is handed to no source: what an accepted answer sets
in the entry stands (R34, R107; the miss count of a RELEASING entry: log 9), nothing else changes, and a BUSY line becomes
IDLE, while a DRAINING one becomes OFF and the emptying stage follows. A fault brings the line to FAULT with its kind, and
the emptying stage follows at once, also where the DISMISS met it (R171). That a request under DISPATCH then stays ON-LINE
in the queue until the emptying stage is the model's choice (log 23). The DISMISS that takes the IDLE line is an all-call
frame with toggle 0 and no payload (the level is the event's operand, log 6); sent, or its last attempt met by contention,
it leaves the line IDLE and the emptying stage follows. What COMMAND takes of a field and an answer is log 7. -/
def Obligations.ClearAndItsDismiss : Prop :=
  let emptied (s : State) : State := { s with
    clearing := false
    active := if s.commitPending then s.shadow else s.active
    commitPending := false, negotiation := none, fifo := []
    roster := .replicate 24 Entry.empty, queue := [], ticketCounter := 0, ring := []
    stores := .replicate 24 Store.empty, censusSlot := none, sweepPointer := 0, passOver := 0
    cause := (if s.commitPending then s.cause ||| 0x04 else s.cause) ||| 0x20
    autoTimer := autoPeriod s.autoCensus }
  let freed (s : State) : State := if s.lineState = .draining
    then emptied { s with lineState := .off, exchange := none, cause := s.cause ||| 0x10 }
    else { s with lineState := .idle, exchange := none }
  (∀ s : State, s.Open →
    let begun : State := { s with
      censusState := .idle, dismissOwed := false, claims := 0, failures := 0, yield := false, round := none
      clearing := true, result := 0, resultArg := 0 }
    (s.lineState = .idle → exec .clear s = .next begun) ∧
    (∀ x, s.lineState = .busy ∨ s.lineState = .draining → s.exchange = some x →
      (x.phase = .command ∨ x.phase = .reply ∨ x.phase = .response ∨ x.phase = .field →
        exec .clear s = .next { begun with exchange := some { x with interruptTaken := true, discard := true } }) ∧
      (x.phase = .retryGap ∨ x.phase = .lineCheck → x.source ≠ .clearDismiss → exec .clear s = .next (freed begun))) ∧
    (s.lineState = .off ∨ s.lineState = .fault ∨ s.lineState = .recovering →
      exec .clear s = .next (emptied begun))) ∧
  (∀ (s : State) (x : Exchange), s.Running → s.clearing = true → s.yield = false →
    s.lineState = .busy ∨ s.lineState = .draining → s.exchange = some x → x.source ≠ .clearDismiss → x.discard = true →
    x.interruptTaken = true →
    let answer (answer : Answer) : Instr := .responseFrame (answer.wire x.sentToggle) .recessive
    let becomes (a : Addr) (e : Entry) : State := { s with roster := s.roster.set a.val e }
    let polled (a : Addr) : Prop := x.frame.kind = .poll ∧ (s.entry a).state = .releasing
    (∀ c reason, x.FailsBy c reason → exec c s = .next (freed s)) ∧
    (x.phase = .command →
      (x.shape = .noAnswer → exec .commandSent s = .next (freed s)) ∧
      (x.shape = .field → exec .commandSent s = .next { s with exchange := some { x with phase := .field } }) ∧
      (x.shape.expectsAnswer = true →
        exec .commandSent s = .next { s with exchange := some { x with phase := .reply } })) ∧
    (x.shape = .field → x.phase = .command ∨ x.phase = .field → ∀ u check mda,
      exec (.fieldEnd u check mda) s = .next (freed s)) ∧
    (x.phase = .command ∨ x.phase = .reply →
      (x.shape = .claim → x.frame.kind = .claim → exec (answer (.ack [])) s = .next (freed s)) ∧
      (∀ a data, x.frame.addressed = some a → x.shape.acceptsAck data = true → data.length ≤ 16 →
        unusedAreZero x.shape data = true →
        exec (answer (.ack data)) s = .next (freed (becomes a { s.entry a with
          toggle := !(s.entry a).toggle, misses := if polled a then (s.entry a).misses else 0 }))) ∧
      (∀ a, x.frame.addressed = some a → x.shape.acceptsWaitRefuse = true →
        exec (answer .wait) s = .next (freed (becomes a { s.entry a with holdOff := some s.holdOffTime.toNat })) ∧
        ∀ reason : BitVec 4, reason ≠ 0 → exec (answer (.refuse reason)) s = .next (freed (becomes a { s.entry a with
          toggle := !(s.entry a).toggle
          misses := if polled a ∨ x.frame.kind = .poll ∧ (s.entry a).state = .lost then (s.entry a).misses else 0 }))))) ∧
  (∀ (s : State) (x : Exchange), s.Running → s.clearing = true → s.yield = false → s.lineState = .busy →
    s.exchange = some x → x.source = .clearDismiss → x.shape = .noAnswer → x.phase = .command →
    x.interruptTaken = false →
    let done : State := emptied { s with lineState := .idle, exchange := none }
    exec .commandSent s = .next done ∧ (x.allowed ≤ x.used → exec .contention s = .next done)) ∧
  (∀ (s : State) (x : Exchange), s.Running → s.clearing = true → s.censusState = .idle →
    s.lineState = .busy ∨ s.lineState = .draining → s.exchange = some x → x.discard = true ∨ x.source = .clearDismiss →
    let faulted (kind : FaultKind) : State := emptied { s with
      lineState := .fault, faultKind := kind, exchange := none, cause := s.cause ||| 0x08 }
    (x.phase = .lineCheck → exec .clearWaitExpiry s = .next (faulted .stuck)) ∧
    (x.phase ≠ .lineCheck → exec .clockFault s = .next (faulted .clock))) ∧
  (∀ (s : State) (mda : Level), s.Running → s.clearing = true → s.lineState = .idle →
    exec (.clearDismiss mda) s = .next { s with
      lineState := .busy, lineRateInForce := if mda = .recessive then s.lineRate else s.lineRateInForce
      exchange := some {
        source := .clearDismiss
        frame := {
          address := none, toggle := false, kind := .dismiss, ackFlag := false, payload := [] }
        sentToggle := false, shape := .noAnswer, allowed := 1 + s.retryLimit.toNat
        used := if mda = .recessive then 1 else 0, phase := if mda = .recessive then .command else .lineCheck
        lastFailure := none, interruptTaken := false, discard := false } })

/-- The pass-over count (R51): 0 after a hardware reset and after a CLEAR's emptying stage, left as it was by LINE DISABLE,
LINE RECOVER and line faults, and read by no register. -/
def Obligations.PassOverKept : Prop :=
  State.reset.passOver = 0 ∧ (∀ s : State, s.finishClear.passOver = 0) ∧
  (∀ s : State, s.Open → (∀ x, s.exchange = some x → x.discard = false ∧ x.source ≠ .clearDismiss) →
    ∀ c ∈ [Instr.lineDisable, .lineRecover, .clearWaitExpiry, .clockFault],
      ∃ t, exec c s = .next t ∧ t.passOver = s.passOver) ∧
  (∀ (s : State) (count : Nat) (address : BitVec 5),
    ({ s with passOver := count } : State).readRegister address = s.readRegister address)

/-! ## The register window (chapter 9) -/

/-- A capture by TABSEL and by TABIDX (R180, R181): the row that both name is copied to the latch, the rest of the latch
is 0x00, the pointer is 0 and the row's length is its end. -/
def Obligations.CaptureCopiesTheRow : Prop :=
  ∀ (s : State) (c : Instr) (select index : Byte), s.Running →
    (c = .tabselWrite select ∧ index = s.tabidx) ∨ (c = .tabidxWrite index ∧ select = s.tabsel) →
    ∃ t, exec c s = .next t ∧
      t = { s with tabsel := select, tabidx := index, latch := t.latch, latchPointer := 0, latchEnd := t.latchEnd } ∧
      (∀ k : Fin 32, t.latchEnd ≤ k.val → t.latch[k.val] = 0) ∧
      (select = 0 ∨ 7 < select → t.latchEnd = 0) ∧
      (select = 1 → t.latchEnd = 32 ∧
        (∀ a : Addr, index = BitVec.ofNat 8 a.number → t.latch.toList = (s.entry a).row) ∧
        (index = 0 ∨ 24 < index → ∀ k : Fin 32, t.latch[k.val] = 0)) ∧
      (select = 2 → t.latchEnd = 7 ∧
        (∀ i : Fin 8, index = BitVec.ofNat 8 i.val → t.latch.toList.take 7 = bindingRow s.bindings[i.val]) ∧
        (7 < index → ∀ k : Fin 32, t.latch[k.val] = 0)) ∧
      (select = 3 → t.latchEnd = 25 ∧ (index = 0 → t.latch.toList.take 25 = s.shadow.toList)) ∧
      (select = 4 → t.latchEnd = 25 ∧ (index = 0 → t.latch.toList.take 25 = s.active.toList)) ∧
      (select = 5 → t.latchEnd = 21 ∧ (index = 0 → t.latch.toList.take 21 = s.staging.toList)) ∧
      (select = 3 ∨ select = 4 ∨ select = 5 → index ≠ 0 → ∀ k : Fin 32, t.latch[k.val] = 0) ∧
      (select = 6 → t.latchEnd = 24 ∧ (∀ head rest, s.ring = head :: rest → t.latch.toList.take 24 = head.row) ∧
        (s.ring = [] → ∀ k : Fin 32, t.latch[k.val] = 0)) ∧
      (select = 7 → t.latchEnd = 8 ∧
        (∀ r, index < 16 → s.queue[index.toNat]? = some r → t.latch.toList.take 8 = r.row) ∧
        (15 < index ∨ s.queue.length ≤ index.toNat → ∀ k : Fin 32, t.latch[k.val] = 0))

/-- The byte layouts of the ROSTER, BINDING, QUEUE and RING rows (R131, R139, R145, R146, R193), code by code. -/
def Obligations.TableRowLayouts : Prop :=
  let address (a : Option Addr) : Byte := match a with | none => 0 | some b => BitVec.ofNat 8 b.number
  let unit (u : UnitNumber) : List Byte :=
    [u.extractLsb' 32 8, u.extractLsb' 24 8, u.extractLsb' 16 8, u.extractLsb' 8 8, u.extractLsb' 0 8]
  let bytes (l : LengthClass) : Byte := match l with | .bytes4 => 4 | .bytes8 => 8 | .bytes12 => 12 | .bytes16 => 16
  let ticks (p : PollClass) : Byte := match p with | .ticks1 => 1 | .ticks2 => 2 | .ticks4 => 4 | .ticks8 => 8
  let condition (c : Condition) : Byte := match c with | .ok => 0 | .degraded => 1 | .failed => 2 | .unknown => 3
  let word (high low : Byte) : BitVec 16 := high ++ low
  let classWord (c : Option (BitVec 12)) : BitVec 16 := match c with | some v => v.setWidth 16 | none => 0xFFFF
  let completion (c : Completion) : Byte := match c with
    | .done => 0x00 | .refused => 0x01 | .noAnswer => 0x02 | .outOfStep => 0x03 | .nodeBusy => 0x04 | .nodeLost => 0x05
    | .nodeRestarted => 0x06 | .released => 0x07 | .aborted => 0x08 | .lineFault => 0x09 | .tooLong => 0x0A
    | .outOfRange => 0x0B | .nodeRefused => 0x0C
  (∀ e : Entry, e.misses ≤ 15 → e.pages.length ≤ 8 →
    e.row.length = 32 ∧
    e.row.getD 0 0 = (match e.state with
      | .free => 0 | .pending => 1 | .negotiating => 2 | .active => 3 | .refused => 4 | .lost => 5 | .releasing => 6) ∧
    (e.row.drop 1).take 5 = unit e.unit ∧
    (e.row.getD 6 0).getLsbD 0 = e.toggle ∧ (e.row.getD 6 0).getLsbD 1 = e.terms.isSome ∧
    (e.row.getD 6 0).getLsbD 2 = e.terms.any (fun t => t.attention) ∧
    (e.row.getD 6 0).getLsbD 3 = e.terms.any (fun t => t.confirm) ∧
    (e.row.getD 6 0).extractLsb' 4 2 = (match e.attention with | .none => 0 | .held => 1 | .reported => 2) ∧
    (e.row.getD 6 0).getLsbD 6 = e.holdOff.isSome ∧ (e.row.getD 6 0).getLsbD 7 = e.due ∧
    e.row.getD 7 0 = condition e.condition ∧ (e.row.getD 8 0).toNat = e.misses ∧
    e.row.getD 9 0 = (match e.terms with | some t => bytes t.payloadLimit | none => 0) ∧
    e.row.getD 10 0 = (match e.terms with | some t => ticks t.pollClass | none => 0) ∧
    (e.row.getD 11 0).toNat = e.pages.length ∧
    (∀ k : Fin 8, word (e.row.getD (12 + 2 * k.val) 0) (e.row.getD (13 + 2 * k.val) 0) = e.pages.getD k.val 0) ∧
    word (e.row.getD 28 0) (e.row.getD 29 0) = classWord e.deviceClass ∧
    e.row.getD 30 0 = (match e.objects with | some r => r.lowest | none => 0) ∧
    e.row.getD 31 0 = (match e.objects with | some r => r.highest | none => 255)) ∧
  bindingRow none = [0, 0, 0, 0, 0, 0, 0] ∧
  (∀ b : Binding, bindingRow (some b) = 1 :: address (some b.address) :: unit b.unit) ∧
  (∀ r : Request, r.row = [r.ticket, address r.address, (match r.kind with | .write => 1 | .read => 2), r.object,
    BitVec.ofNat 8 r.length, (match r.phase with | .unstarted => 0 | .held => 1 | .onLine => 2),
    (match r.verdict with | some v => completion v | none => 0xFF), BitVec.ofNat 8 r.attempts]) ∧
  (∀ r : RequestRecord, r.attempts ≤ 15 → r.payload.length ≤ 16 →
    let row := (Record.request r).row
    row.length = 24 ∧
    row.take 5 = [0x01, address r.address, r.ticket, completion r.result, r.reason.setWidth 8] ∧
    ((row.getD 5 0) &&& 0x0F).toNat = r.attempts ∧ (row.getD 5 0) &&& 0x70 = 0 ∧
    (row.getD 5 0).getLsbD 7 = r.abortRequested ∧
    (row.getD 6 0).toNat = r.payload.length ∧ row.getD 7 0 = BitVec.ofNat 8 r.waits ∧
    ∀ k : Fin 16, row.getD (8 + k.val) 0 = r.payload.getD k.val 0) ∧
  (∀ e : EventRecord,
    let row := (Record.event e).row
    let data : List Byte := match e.data with
      | .joined t c => [bytes t.payloadLimit, ticks t.pollClass, (if t.attention then 1 else 0) + (if t.confirm then 2 else 0),
          (classWord c).extractLsb' 8 8, (classWord c).extractLsb' 0 8]
      | .refused reason => [match reason with | .noPollClass => 1 | .notAgreed => 2 | .pagesOverflow => 3 | .protocol => 4]
      | .released answered => [if answered then 1 else 0]
      | .condition c => [condition c]
      | .attention code => [code]
      | .censusEnd outcome claims => [match outcome with
          | .complete => 0 | .rosterFull => 1 | .failedRounds => 2 | .stopped => 3 | .line => 4, BitVec.ofNat 8 claims]
      | .lost | .back | .restarted => []
    row.length = 24 ∧
    row.take 7 = (match e.data with
      | .joined _ _ => 0x10 | .refused _ => 0x11 | .lost => 0x12 | .back => 0x13 | .restarted => 0x14
      | .released _ => 0x15 | .condition _ => 0x16 | .attention _ => 0x17 | .censusEnd _ _ => 0x18) ::
      address e.address :: unit e.unit ∧
    ∀ k : Fin 17, row.getD (7 + k.val) 0 = data.getD k.val 0)

/-- A read of TABDATA (R182): below the end it returns the latch byte at the pointer and the pointer advances by one; at
the end it returns 0x00 and the pointer stays; no table changes (the byte returned is held in readData, log 5). -/
def Obligations.TabdataReadAdvances : Prop :=
  ∀ s : State, s.Running →
    (∀ h : s.latchPointer < 32, s.latchPointer < s.latchEnd → exec .tabdataRead s =
      .next { s with readData := s.latch[s.latchPointer], latchPointer := s.latchPointer + 1 }) ∧
    (s.latchEnd ≤ s.latchPointer → exec .tabdataRead s = .next { s with readData := 0 })

/-- A write of TABDATA by the captured table (R183): STAGING and, with no commit pending, OFFER SHADOW, each at index 0,
store the byte in the row and in the latch; elsewhere nothing is stored; the pointer advances below the end, and at the
end nothing changes. The captured table and row are taken to be those that TABSEL and TABIDX hold (log 12). -/
def Obligations.TabdataWriteByTable : Prop :=
  ∀ (v : Byte) (s : State), s.Running →
    (s.latchEnd ≤ s.latchPointer → exec (.tabdataWrite v) s = .next s) ∧
    (s.latchPointer < s.latchEnd →
      (∀ h : s.latchPointer < 21, s.tabsel = 5 → s.tabidx = 0 → exec (.tabdataWrite v) s = .next { s with
        staging := s.staging.set s.latchPointer v, latch := s.latch.set s.latchPointer v
        latchPointer := s.latchPointer + 1 }) ∧
      (∀ h : s.latchPointer < 25, s.tabsel = 3 → s.tabidx = 0 → s.commitPending = false →
        exec (.tabdataWrite v) s = .next { s with
          shadow := s.shadow.set s.latchPointer v, latch := s.latch.set s.latchPointer v
          latchPointer := s.latchPointer + 1 }) ∧
      (s.tabidx ≠ 0 ∨ (s.tabsel = 3 ∧ s.commitPending = true) ∨ (s.tabsel ≠ 3 ∧ s.tabsel ≠ 5) →
        exec (.tabdataWrite v) s = .next { s with latchPointer := s.latchPointer + 1 }))

/-- Register writes (R174, R175, R184, R185, R186): a write of CAUSE clears the bits written as 1, a write of ENABLE stores
the mask, LINERATE, RETRYLIM, WAITLIM and HOLDOFF store the value brought into their range, ARG0 to ARG5 store it as it
is, and a read-only register ignores it. IRQ# is asserted exactly while some bit is set both in CAUSE and in ENABLE. -/
def Obligations.RegisterWritesAndIrq : Prop :=
  (∀ (v : Byte) (s : State), s.Running →
    exec (.causeWrite v) s = .next { s with cause := s.cause &&& ~~~v } ∧
    exec (.enableWrite v) s = .next { s with enable := v } ∧
    exec (.registerWrite 0x15 v) s = .next { s with lineRate := if 5 < v then 5 else v } ∧
    exec (.registerWrite 0x17 v) s = .next { s with retryLimit := if 7 < v then 7 else v } ∧
    exec (.registerWrite 0x18 v) s = .next { s with waitLimit := if v = 0 then 1 else if 15 < v then 15 else v } ∧
    exec (.registerWrite 0x19 v) s = .next { s with holdOffTime := if v = 0 then 1 else v } ∧
    (∀ k : Fin 6, exec (.registerWrite (BitVec.ofNat 5 (9 + k.val)) v) s =
      .next { s with args := s.args.set k.val v }) ∧
    (∀ address ∈ ([0x00, 0x01, 0x02, 0x03, 0x07, 0x08, 0x12, 0x13, 0x14, 0x1C, 0x1D, 0x1E, 0x1F] : List (BitVec 5)),
      exec (.registerWrite address v) s = .next s)) ∧
  (∀ s : State, s.irqAsserted = true ↔ ∃ i : Fin 8, s.cause.getLsbD i.val = true ∧ s.enable.getLsbD i.val = true)

/-! ## Formats and the line (chapters 2, 3 and 11) -/

/-- The frames on the line: the two confirmation values of the check byte (R29), the layout of a command frame closed by
it, with the eight kind codes (R27, R30, R192), and the judgement of a response frame in its order (R28, R30, R38, R40):
a length above 16 is malformed, then the check byte, then the toggle echo, then the shape, by the response tail, the
status, its reason, and the length and payload that the kind accepts. A byte that was not received reads 0xFF (log 8).
Positions shown as unused, bit 6 of the status byte and in an ACK to a PAGE those that the page's kind does not use, are
read as 0 in every test (R192), the check test among them (log 29). -/
def Obligations.FrameFormats : Prop :=
  checkByte [0x00] = 0xAC ∧ checkByte [0x31, 0x32, 0x33, 0x34, 0x35, 0x36, 0x37, 0x38, 0x39] = 0xF7 ∧
  (∀ f : Frame, ∃ address kind : Byte,
    f.bytes = address :: kind :: BitVec.ofNat 8 f.payload.length :: f.payload ++
      [checkByte (address :: kind :: BitVec.ofNat 8 f.payload.length :: f.payload)] ∧
    address.getLsbD 7 = f.toggle ∧ (address &&& 0x60) = 0 ∧
    (address &&& 0x1F).toNat = (match f.address with | none => 0 | some a => a.number) ∧
    kind.getLsbD 4 = f.ackFlag ∧ (kind &&& 0xE0) = 0 ∧ (kind &&& 0x0F) = (match f.kind with
      | .census => 1 | .claim => 2 | .dismiss => 3 | .page => 4
      | .poll => 5 | .write => 6 | .read => 7 | .release => 8)) ∧
  (∀ (shape : AnswerShape) (toggle : Bool) (wire : List Byte) (tail : Level),
    let raw (k : Nat) : Byte := wire.getD k 0xFF
    let page : Bool := match shape with
      | .page _ => decide (raw 0 &&& 0x03 = 1 ∧ raw 1 = 3)
      | _ => false
    let read (k : Nat) : Byte := if k = 0 then raw 0 &&& 0xBF else if page = true ∧ k = 3 then
      (match pageKind (raw 2 ++ raw 3) with
        | .base => raw 3 &&& 0xF0
        | .message => raw 3 &&& 0xF8
        | .plain | .invalid => raw 3)
      else raw k
    let status := read 0
    let length := (raw 1).toNat
    let check := raw (length + 2)
    let computed := checkByte ((List.range (length + 2)).map read)
    (16 < length → judgeResponse shape toggle wire tail = .error .malformed) ∧
    (length ≤ 16 →
      (check ≠ computed → judgeResponse shape toggle wire tail = .error .check) ∧
      (check = computed →
        (status.getLsbD 7 ≠ toggle → judgeResponse shape toggle wire tail = .error .sequence) ∧
        (status.getLsbD 7 = toggle →
          let code := status &&& 0x03
          let reason := status.extractLsb' 2 4
          let fits : Prop := match shape with
            | .noAnswer | .field => False
            | .claim | .release => length = 0
            | .page index => length = 3 ∧ raw 4 = BitVec.ofNat 8 index
            | .poll => length = 2 ∧ raw 3 ≤ 2
            | .write confirm => length = if confirm then 1 else 0
            | .read wanted => length ≤ wanted
          let addressed : Prop := shape ≠ .noAnswer ∧ shape ≠ .field ∧ shape ≠ .claim
          let ack : Prop := code = 1 ∧ reason = 0 ∧ fits
          let wait : Prop := code = 2 ∧ reason = 0 ∧ length = 0 ∧ addressed
          let refuse : Prop := code = 3 ∧ reason ≠ 0 ∧ length = 0 ∧ addressed
          (tail = .dominant ∨ (¬ack ∧ ¬wait ∧ ¬refuse) → judgeResponse shape toggle wire tail = .error .malformed) ∧
          (tail = .recessive →
            (ack → judgeResponse shape toggle wire tail =
              .ok (.ack ((List.range length).map fun k => read (k + 2)))) ∧
            (wait → judgeResponse shape toggle wire tail = .ok .wait) ∧
            (refuse → judgeResponse shape toggle wire tail = .ok (.refuse reason)))))))

/-- What a node may answer is accepted as that answer: the response frame built from R28 and R192 for any answer inside
the shape of R30, echoing the toggle sent, read back byte for byte, passes every test of R38 and no field is dropped
(nodes are a reference outside the block, log 17). A page is one whose unused positions are 0 (what the coordinator reads
there otherwise: log 29). -/
def Obligations.NodeAnswersAreAccepted : Prop :=
  ∀ (shape : AnswerShape) (toggle : Bool) (answer : Answer), answer.suits shape = true →
    unusedAreZero shape answer.payload = true →
    judgeResponse shape toggle (answer.wire toggle) .recessive = .ok answer

/-- The arbitration field reads the lowest unit number among the nodes that take part, and its winner's check byte; with
no node it reads all ones (R58, R59; nodes are a reference outside the block, log 17). -/
def Obligations.LowestUnitWinsTheField : Prop :=
  (fieldUnit [] = 0xFFFFFFFFFF) ∧
  ∀ (units : List UnitNumber) (u : UnitNumber), u ∈ units → (∀ v ∈ units, u ≤ v) →
    fieldUnit units = u ∧ fieldCheck units = checkByte (unitBytes u)

/-! ## The laws that every step keeps -/

/-- Every step keeps the line law (R48): an exchange is on the line exactly in BUSY and DRAINING. -/
def Obligations.LineLawKept : Prop :=
  ∀ s t : State, s.LineLaw → step s = .next t → t.LineLaw

/-- Every step keeps the occupancy law (R141) and the bound of the queue (R117). -/
def Obligations.OccupancyLawKept : Prop :=
  ∀ s t : State, s.OccupancyLaw → s.QueueLaw → step s = .next t → t.OccupancyLaw ∧ t.QueueLaw

/-- Every step keeps the ticket law (R116), given the bounds of the queue and the ring. -/
def Obligations.TicketLawKept : Prop :=
  ∀ s t : State, s.TicketLaw → s.OccupancyLaw → s.QueueLaw → step s = .next t → t.TicketLaw

/-- Every step keeps the laws of the exchange on the line and of its round (R18, R30, R53, R57, R69, R101, R104, R118, R170,
R171): among them that a POLL that carries the acknowledge is of an entry whose attention state is not HELD, and that no
exchange, discarded or not, addresses a FREE entry. -/
def Obligations.ExchangeLawsKept : Prop :=
  ∀ s t : State, s.Laws → step s = .next t → t.FrameLaw ∧ t.SourceLaw ∧ t.OnLineLaw ∧ t.RoundLaw

/-- Every step keeps the laws of the roster (R1, R5, R8, R77, R78, R100): the FIFO holds exactly the PENDING entries, once
each, and the negotiation in progress is the NEGOTIATING entry's; unit numbers are distinct; FREE entries are empty; due
flags stand in ACTIVE and LOST entries. -/
def Obligations.RosterLawsKept : Prop :=
  ∀ s t : State, s.Laws → step s = .next t → t.FifoLaw ∧ t.UnitLaw ∧ t.FreeLaw ∧ t.DueLaw

/-- Every step keeps the laws of the pending-event stores (R146, R148 to R150): an attention event waits exactly while its
entry's attention state is HELD, and every slot holds an event of its own kind. -/
def Obligations.StoreLawsKept : Prop :=
  ∀ s t : State, s.Laws → step s = .next t → t.AttentionLaw ∧ t.StoreLaw

/-- Every step keeps the laws of the binding table (R8, R13, R14): no two rows share an address or a unit number, and no
entry and no waiting event stands against a row. -/
def Obligations.BindingLawsKept : Prop :=
  ∀ s t : State, s.Laws → step s = .next t → t.BindingRowsLaw ∧ t.BindingHeldLaw

/-- Every step keeps the law of ACTIVE entries (R88, R108): terms present and the miss count below the miss limit; the ranges
of the counts (R50, R53, R78, R80 to R83, R107, R117, R126, R131, R180): among them a pass-over count of at most 8, miss
counts of at most 15, at most 8 node pages, a next index of at most 15 and a restart count of at most 2; the ranges of the
configuration registers (R184); and that a commit is pending only while a negotiation is in progress (R93, R94). -/
def Obligations.ActiveRangeAndCommitLawsKept : Prop :=
  (∀ s t : State, s.LineLaw → s.FrameLaw → s.ActiveLaw → step s = .next t → t.ActiveLaw) ∧
  (∀ s t : State, s.RangeLaw → s.ConfigLaw → step s = .next t → t.RangeLaw ∧ t.ConfigLaw) ∧
  ∀ s t : State, s.CommitLaw → step s = .next t → t.CommitLaw

end
end

