-- ==== Sys2Proof/Laws/Bytes.lean ====
section
/-! SUPPORT. The bytes of unit numbers, words and table rows: round trips and lengths. -/

namespace Sys2Proof.Machine

/-- A unit number is its five bytes (spec/00 Byte order). -/
theorem unitOfBytes_unitBytes (u : UnitNumber) :
    unitOfBytes (u.extractLsb' 32 8) (u.extractLsb' 24 8) (u.extractLsb' 16 8) (u.extractLsb' 8 8)
      (u.extractLsb' 0 8) = u := by
  unfold unitOfBytes
  ext i hi
  simp only [BitVec.getElem_append, BitVec.getElem_extractLsb']
  split
  · rw [Nat.zero_add]; exact (BitVec.getLsbD_eq_getElem hi)
  split
  · rw [show 8 + (i - 8) = i by omega]; exact (BitVec.getLsbD_eq_getElem hi)
  split
  · rw [show 16 + (i - 8 - 8) = i by omega]; exact (BitVec.getLsbD_eq_getElem hi)
  split
  · rw [show 24 + (i - 8 - 8 - 8) = i by omega]; exact (BitVec.getLsbD_eq_getElem hi)
  · rw [show 32 + (i - 8 - 8 - 8 - 8) = i by omega]; exact (BitVec.getLsbD_eq_getElem hi)

/-- A 16-bit word is its two bytes. -/
theorem wordOfBytes_wordBytes (w : BitVec 16) :
    wordOfBytes (w.extractLsb' 8 8) (w.extractLsb' 0 8) = w := by
  unfold wordOfBytes
  ext i hi
  simp only [BitVec.getElem_append, BitVec.getElem_extractLsb']
  split
  · rw [Nat.zero_add]; exact (BitVec.getLsbD_eq_getElem hi)
  · rw [show 8 + (i - 8) = i by omega]; exact (BitVec.getLsbD_eq_getElem hi)

/-- A line address is the number it is written as. -/
theorem ofNumber?_number (a : Addr) : Addr.ofNumber? a.number = some a := by
  have h : 1 ≤ a.number ∧ a.number ≤ 24 := by
    have := a.isLt
    unfold Addr.number
    omega
  rw [Addr.ofNumber?, dif_pos h]
  exact congrArg some (Fin.ext (by simp [Addr.number]))

/-! ## Row lengths (R181) -/

@[simp] theorem length_unitBytes (u : UnitNumber) : (unitBytes u).length = 5 := rfl

@[simp] theorem length_wordBytes (w : BitVec 16) : (wordBytes w).length = 2 := rfl

@[simp] theorem length_classBytes (c : Option (BitVec 12)) : (classBytes c).length = 2 := by cases c <;> rfl

@[simp] theorem length_rangeBytes (r : Option ObjectRange) : (rangeBytes r).length = 2 := by cases r <;> rfl

@[simp] theorem length_padded (n : Nat) (l : List Byte) : (padded n l).length = n := by simp [padded]

/-- A ROSTER row has 32 bytes. -/
theorem length_entryRow (e : Entry) : e.row.length = 32 := by
  simp [Entry.row, Entry.pageBytes, List.length_flatMap]

/-- A BINDING row has 7 bytes. -/
theorem length_bindingRow (b : Option Binding) : (bindingRow b).length = 7 := by cases b <;> simp [bindingRow]

/-- A QUEUE row has 8 bytes. -/
theorem length_requestRow (r : Request) : r.row.length = 8 := rfl

/-- A RING record has 24 bytes. -/
theorem length_recordRow (r : Record) : r.row.length = 24 := by
  cases r <;> simp [Record.row, RequestRecord.row, EventRecord.row]

/-- Every captured row has the length of its table (R181). -/
theorem length_tableRow (s : State) (t : Table) (index : Byte) : (s.tableRow t index).length = t.rowLength := by
  cases t <;> simp only [State.tableRow, Table.rowLength, List.length_nil]
  · split <;> simp [length_entryRow]
  · split <;> simp [length_bindingRow]
  · split <;> simp
  · split <;> simp
  · split <;> simp
  · split <;> simp [length_recordRow]
  · split
    · split <;> simp [length_requestRow]
    · simp

/-- A response frame on the line has its payload and three bytes more (R28). -/
theorem length_answerWire (echo : Bool) (a : Answer) : (a.wire echo).length = a.payload.length + 3 := by
  simp [Answer.wire, Answer.body]

end Sys2Proof.Machine
end

