-- ==== Sys2Proof/Laws/State.lean ====
section
/-! SUPPORT. One lemma for each field of the state under each of its named updates, so that no proof unfolds a record
update; then what reading an entry or a store gives after one is replaced. -/

namespace Sys2Proof.Machine

section

variable (s : State)

/-! ### setEntry: replacing an entry -/

@[simp] theorem State.setEntry_lineState (a : Addr) (e : Entry) : (s.setEntry a e).lineState = s.lineState := rfl
@[simp] theorem State.setEntry_faultKind (a : Addr) (e : Entry) : (s.setEntry a e).faultKind = s.faultKind := rfl
@[simp] theorem State.setEntry_lineRateInForce (a : Addr) (e : Entry) : (s.setEntry a e).lineRateInForce = s.lineRateInForce := rfl
@[simp] theorem State.setEntry_exchange (a : Addr) (e : Entry) : (s.setEntry a e).exchange = s.exchange := rfl
@[simp] theorem State.setEntry_passOver (a : Addr) (e : Entry) : (s.setEntry a e).passOver = s.passOver := rfl
@[simp] theorem State.setEntry_roster (a : Addr) (e : Entry) : (s.setEntry a e).roster = s.roster.set a.val e := rfl
@[simp] theorem State.setEntry_bindings (a : Addr) (e : Entry) : (s.setEntry a e).bindings = s.bindings := rfl
@[simp] theorem State.setEntry_censusState (a : Addr) (e : Entry) : (s.setEntry a e).censusState = s.censusState := rfl
@[simp] theorem State.setEntry_dismissOwed (a : Addr) (e : Entry) : (s.setEntry a e).dismissOwed = s.dismissOwed := rfl
@[simp] theorem State.setEntry_claims (a : Addr) (e : Entry) : (s.setEntry a e).claims = s.claims := rfl
@[simp] theorem State.setEntry_failures (a : Addr) (e : Entry) : (s.setEntry a e).failures = s.failures := rfl
@[simp] theorem State.setEntry_yield (a : Addr) (e : Entry) : (s.setEntry a e).yield = s.yield := rfl
@[simp] theorem State.setEntry_round (a : Addr) (e : Entry) : (s.setEntry a e).round = s.round := rfl
@[simp] theorem State.setEntry_autoTimer (a : Addr) (e : Entry) : (s.setEntry a e).autoTimer = s.autoTimer := rfl
@[simp] theorem State.setEntry_fifo (a : Addr) (e : Entry) : (s.setEntry a e).fifo = s.fifo := rfl
@[simp] theorem State.setEntry_negotiation (a : Addr) (e : Entry) : (s.setEntry a e).negotiation = s.negotiation := rfl
@[simp] theorem State.setEntry_commitPending (a : Addr) (e : Entry) : (s.setEntry a e).commitPending = s.commitPending := rfl
@[simp] theorem State.setEntry_shadow (a : Addr) (e : Entry) : (s.setEntry a e).shadow = s.shadow := rfl
@[simp] theorem State.setEntry_active (a : Addr) (e : Entry) : (s.setEntry a e).active = s.active := rfl
@[simp] theorem State.setEntry_tickTimer (a : Addr) (e : Entry) : (s.setEntry a e).tickTimer = s.tickTimer := rfl
@[simp] theorem State.setEntry_tickCounter (a : Addr) (e : Entry) : (s.setEntry a e).tickCounter = s.tickCounter := rfl
@[simp] theorem State.setEntry_sweepPointer (a : Addr) (e : Entry) : (s.setEntry a e).sweepPointer = s.sweepPointer := rfl
@[simp] theorem State.setEntry_staging (a : Addr) (e : Entry) : (s.setEntry a e).staging = s.staging := rfl
@[simp] theorem State.setEntry_queue (a : Addr) (e : Entry) : (s.setEntry a e).queue = s.queue := rfl
@[simp] theorem State.setEntry_ticketCounter (a : Addr) (e : Entry) : (s.setEntry a e).ticketCounter = s.ticketCounter := rfl
@[simp] theorem State.setEntry_ring (a : Addr) (e : Entry) : (s.setEntry a e).ring = s.ring := rfl
@[simp] theorem State.setEntry_stores (a : Addr) (e : Entry) : (s.setEntry a e).stores = s.stores := rfl
@[simp] theorem State.setEntry_censusSlot (a : Addr) (e : Entry) : (s.setEntry a e).censusSlot = s.censusSlot := rfl
@[simp] theorem State.setEntry_cause (a : Addr) (e : Entry) : (s.setEntry a e).cause = s.cause := rfl
@[simp] theorem State.setEntry_enable (a : Addr) (e : Entry) : (s.setEntry a e).enable = s.enable := rfl
@[simp] theorem State.setEntry_result (a : Addr) (e : Entry) : (s.setEntry a e).result = s.result := rfl
@[simp] theorem State.setEntry_resultArg (a : Addr) (e : Entry) : (s.setEntry a e).resultArg = s.resultArg := rfl
@[simp] theorem State.setEntry_args (a : Addr) (e : Entry) : (s.setEntry a e).args = s.args := rfl
@[simp] theorem State.setEntry_tabsel (a : Addr) (e : Entry) : (s.setEntry a e).tabsel = s.tabsel := rfl
@[simp] theorem State.setEntry_tabidx (a : Addr) (e : Entry) : (s.setEntry a e).tabidx = s.tabidx := rfl
@[simp] theorem State.setEntry_latch (a : Addr) (e : Entry) : (s.setEntry a e).latch = s.latch := rfl
@[simp] theorem State.setEntry_latchPointer (a : Addr) (e : Entry) : (s.setEntry a e).latchPointer = s.latchPointer := rfl
@[simp] theorem State.setEntry_latchEnd (a : Addr) (e : Entry) : (s.setEntry a e).latchEnd = s.latchEnd := rfl
@[simp] theorem State.setEntry_lineRate (a : Addr) (e : Entry) : (s.setEntry a e).lineRate = s.lineRate := rfl
@[simp] theorem State.setEntry_sweepInterval (a : Addr) (e : Entry) : (s.setEntry a e).sweepInterval = s.sweepInterval := rfl
@[simp] theorem State.setEntry_retryLimit (a : Addr) (e : Entry) : (s.setEntry a e).retryLimit = s.retryLimit := rfl
@[simp] theorem State.setEntry_waitLimit (a : Addr) (e : Entry) : (s.setEntry a e).waitLimit = s.waitLimit := rfl
@[simp] theorem State.setEntry_holdOffTime (a : Addr) (e : Entry) : (s.setEntry a e).holdOffTime = s.holdOffTime := rfl
@[simp] theorem State.setEntry_missLimit (a : Addr) (e : Entry) : (s.setEntry a e).missLimit = s.missLimit := rfl
@[simp] theorem State.setEntry_autoCensus (a : Addr) (e : Entry) : (s.setEntry a e).autoCensus = s.autoCensus := rfl
@[simp] theorem State.setEntry_clearing (a : Addr) (e : Entry) : (s.setEntry a e).clearing = s.clearing := rfl
@[simp] theorem State.setEntry_resetAsserted (a : Addr) (e : Entry) : (s.setEntry a e).resetAsserted = s.resetAsserted := rfl
@[simp] theorem State.setEntry_readData (a : Addr) (e : Entry) : (s.setEntry a e).readData = s.readData := rfl
@[simp] theorem State.setEntry_pending (a : Addr) (e : Entry) : (s.setEntry a e).pending = s.pending := rfl

/-! ### mapEntries: changing every entry -/

@[simp] theorem State.mapEntries_lineState (f : Addr → Entry → Entry) : (s.mapEntries f).lineState = s.lineState := rfl
@[simp] theorem State.mapEntries_faultKind (f : Addr → Entry → Entry) : (s.mapEntries f).faultKind = s.faultKind := rfl
@[simp] theorem State.mapEntries_lineRateInForce (f : Addr → Entry → Entry) : (s.mapEntries f).lineRateInForce = s.lineRateInForce := rfl
@[simp] theorem State.mapEntries_exchange (f : Addr → Entry → Entry) : (s.mapEntries f).exchange = s.exchange := rfl
@[simp] theorem State.mapEntries_passOver (f : Addr → Entry → Entry) : (s.mapEntries f).passOver = s.passOver := rfl
@[simp] theorem State.mapEntries_roster (f : Addr → Entry → Entry) : (s.mapEntries f).roster = tabulate 24 fun a => f a (s.entry a) := rfl
@[simp] theorem State.mapEntries_bindings (f : Addr → Entry → Entry) : (s.mapEntries f).bindings = s.bindings := rfl
@[simp] theorem State.mapEntries_censusState (f : Addr → Entry → Entry) : (s.mapEntries f).censusState = s.censusState := rfl
@[simp] theorem State.mapEntries_dismissOwed (f : Addr → Entry → Entry) : (s.mapEntries f).dismissOwed = s.dismissOwed := rfl
@[simp] theorem State.mapEntries_claims (f : Addr → Entry → Entry) : (s.mapEntries f).claims = s.claims := rfl
@[simp] theorem State.mapEntries_failures (f : Addr → Entry → Entry) : (s.mapEntries f).failures = s.failures := rfl
@[simp] theorem State.mapEntries_yield (f : Addr → Entry → Entry) : (s.mapEntries f).yield = s.yield := rfl
@[simp] theorem State.mapEntries_round (f : Addr → Entry → Entry) : (s.mapEntries f).round = s.round := rfl
@[simp] theorem State.mapEntries_autoTimer (f : Addr → Entry → Entry) : (s.mapEntries f).autoTimer = s.autoTimer := rfl
@[simp] theorem State.mapEntries_fifo (f : Addr → Entry → Entry) : (s.mapEntries f).fifo = s.fifo := rfl
@[simp] theorem State.mapEntries_negotiation (f : Addr → Entry → Entry) : (s.mapEntries f).negotiation = s.negotiation := rfl
@[simp] theorem State.mapEntries_commitPending (f : Addr → Entry → Entry) : (s.mapEntries f).commitPending = s.commitPending := rfl
@[simp] theorem State.mapEntries_shadow (f : Addr → Entry → Entry) : (s.mapEntries f).shadow = s.shadow := rfl
@[simp] theorem State.mapEntries_active (f : Addr → Entry → Entry) : (s.mapEntries f).active = s.active := rfl
@[simp] theorem State.mapEntries_tickTimer (f : Addr → Entry → Entry) : (s.mapEntries f).tickTimer = s.tickTimer := rfl
@[simp] theorem State.mapEntries_tickCounter (f : Addr → Entry → Entry) : (s.mapEntries f).tickCounter = s.tickCounter := rfl
@[simp] theorem State.mapEntries_sweepPointer (f : Addr → Entry → Entry) : (s.mapEntries f).sweepPointer = s.sweepPointer := rfl
@[simp] theorem State.mapEntries_staging (f : Addr → Entry → Entry) : (s.mapEntries f).staging = s.staging := rfl
@[simp] theorem State.mapEntries_queue (f : Addr → Entry → Entry) : (s.mapEntries f).queue = s.queue := rfl
@[simp] theorem State.mapEntries_ticketCounter (f : Addr → Entry → Entry) : (s.mapEntries f).ticketCounter = s.ticketCounter := rfl
@[simp] theorem State.mapEntries_ring (f : Addr → Entry → Entry) : (s.mapEntries f).ring = s.ring := rfl
@[simp] theorem State.mapEntries_stores (f : Addr → Entry → Entry) : (s.mapEntries f).stores = s.stores := rfl
@[simp] theorem State.mapEntries_censusSlot (f : Addr → Entry → Entry) : (s.mapEntries f).censusSlot = s.censusSlot := rfl
@[simp] theorem State.mapEntries_cause (f : Addr → Entry → Entry) : (s.mapEntries f).cause = s.cause := rfl
@[simp] theorem State.mapEntries_enable (f : Addr → Entry → Entry) : (s.mapEntries f).enable = s.enable := rfl
@[simp] theorem State.mapEntries_result (f : Addr → Entry → Entry) : (s.mapEntries f).result = s.result := rfl
@[simp] theorem State.mapEntries_resultArg (f : Addr → Entry → Entry) : (s.mapEntries f).resultArg = s.resultArg := rfl
@[simp] theorem State.mapEntries_args (f : Addr → Entry → Entry) : (s.mapEntries f).args = s.args := rfl
@[simp] theorem State.mapEntries_tabsel (f : Addr → Entry → Entry) : (s.mapEntries f).tabsel = s.tabsel := rfl
@[simp] theorem State.mapEntries_tabidx (f : Addr → Entry → Entry) : (s.mapEntries f).tabidx = s.tabidx := rfl
@[simp] theorem State.mapEntries_latch (f : Addr → Entry → Entry) : (s.mapEntries f).latch = s.latch := rfl
@[simp] theorem State.mapEntries_latchPointer (f : Addr → Entry → Entry) : (s.mapEntries f).latchPointer = s.latchPointer := rfl
@[simp] theorem State.mapEntries_latchEnd (f : Addr → Entry → Entry) : (s.mapEntries f).latchEnd = s.latchEnd := rfl
@[simp] theorem State.mapEntries_lineRate (f : Addr → Entry → Entry) : (s.mapEntries f).lineRate = s.lineRate := rfl
@[simp] theorem State.mapEntries_sweepInterval (f : Addr → Entry → Entry) : (s.mapEntries f).sweepInterval = s.sweepInterval := rfl
@[simp] theorem State.mapEntries_retryLimit (f : Addr → Entry → Entry) : (s.mapEntries f).retryLimit = s.retryLimit := rfl
@[simp] theorem State.mapEntries_waitLimit (f : Addr → Entry → Entry) : (s.mapEntries f).waitLimit = s.waitLimit := rfl
@[simp] theorem State.mapEntries_holdOffTime (f : Addr → Entry → Entry) : (s.mapEntries f).holdOffTime = s.holdOffTime := rfl
@[simp] theorem State.mapEntries_missLimit (f : Addr → Entry → Entry) : (s.mapEntries f).missLimit = s.missLimit := rfl
@[simp] theorem State.mapEntries_autoCensus (f : Addr → Entry → Entry) : (s.mapEntries f).autoCensus = s.autoCensus := rfl
@[simp] theorem State.mapEntries_clearing (f : Addr → Entry → Entry) : (s.mapEntries f).clearing = s.clearing := rfl
@[simp] theorem State.mapEntries_resetAsserted (f : Addr → Entry → Entry) : (s.mapEntries f).resetAsserted = s.resetAsserted := rfl
@[simp] theorem State.mapEntries_readData (f : Addr → Entry → Entry) : (s.mapEntries f).readData = s.readData := rfl
@[simp] theorem State.mapEntries_pending (f : Addr → Entry → Entry) : (s.mapEntries f).pending = s.pending := rfl

/-! ### setStore: replacing a store -/

@[simp] theorem State.setStore_lineState (a : Addr) (st : Store) : (s.setStore a st).lineState = s.lineState := rfl
@[simp] theorem State.setStore_faultKind (a : Addr) (st : Store) : (s.setStore a st).faultKind = s.faultKind := rfl
@[simp] theorem State.setStore_lineRateInForce (a : Addr) (st : Store) : (s.setStore a st).lineRateInForce = s.lineRateInForce := rfl
@[simp] theorem State.setStore_exchange (a : Addr) (st : Store) : (s.setStore a st).exchange = s.exchange := rfl
@[simp] theorem State.setStore_passOver (a : Addr) (st : Store) : (s.setStore a st).passOver = s.passOver := rfl
@[simp] theorem State.setStore_roster (a : Addr) (st : Store) : (s.setStore a st).roster = s.roster := rfl
@[simp] theorem State.setStore_bindings (a : Addr) (st : Store) : (s.setStore a st).bindings = s.bindings := rfl
@[simp] theorem State.setStore_censusState (a : Addr) (st : Store) : (s.setStore a st).censusState = s.censusState := rfl
@[simp] theorem State.setStore_dismissOwed (a : Addr) (st : Store) : (s.setStore a st).dismissOwed = s.dismissOwed := rfl
@[simp] theorem State.setStore_claims (a : Addr) (st : Store) : (s.setStore a st).claims = s.claims := rfl
@[simp] theorem State.setStore_failures (a : Addr) (st : Store) : (s.setStore a st).failures = s.failures := rfl
@[simp] theorem State.setStore_yield (a : Addr) (st : Store) : (s.setStore a st).yield = s.yield := rfl
@[simp] theorem State.setStore_round (a : Addr) (st : Store) : (s.setStore a st).round = s.round := rfl
@[simp] theorem State.setStore_autoTimer (a : Addr) (st : Store) : (s.setStore a st).autoTimer = s.autoTimer := rfl
@[simp] theorem State.setStore_fifo (a : Addr) (st : Store) : (s.setStore a st).fifo = s.fifo := rfl
@[simp] theorem State.setStore_negotiation (a : Addr) (st : Store) : (s.setStore a st).negotiation = s.negotiation := rfl
@[simp] theorem State.setStore_commitPending (a : Addr) (st : Store) : (s.setStore a st).commitPending = s.commitPending := rfl
@[simp] theorem State.setStore_shadow (a : Addr) (st : Store) : (s.setStore a st).shadow = s.shadow := rfl
@[simp] theorem State.setStore_active (a : Addr) (st : Store) : (s.setStore a st).active = s.active := rfl
@[simp] theorem State.setStore_tickTimer (a : Addr) (st : Store) : (s.setStore a st).tickTimer = s.tickTimer := rfl
@[simp] theorem State.setStore_tickCounter (a : Addr) (st : Store) : (s.setStore a st).tickCounter = s.tickCounter := rfl
@[simp] theorem State.setStore_sweepPointer (a : Addr) (st : Store) : (s.setStore a st).sweepPointer = s.sweepPointer := rfl
@[simp] theorem State.setStore_staging (a : Addr) (st : Store) : (s.setStore a st).staging = s.staging := rfl
@[simp] theorem State.setStore_queue (a : Addr) (st : Store) : (s.setStore a st).queue = s.queue := rfl
@[simp] theorem State.setStore_ticketCounter (a : Addr) (st : Store) : (s.setStore a st).ticketCounter = s.ticketCounter := rfl
@[simp] theorem State.setStore_ring (a : Addr) (st : Store) : (s.setStore a st).ring = s.ring := rfl
@[simp] theorem State.setStore_stores (a : Addr) (st : Store) : (s.setStore a st).stores = s.stores.set a.val st := rfl
@[simp] theorem State.setStore_censusSlot (a : Addr) (st : Store) : (s.setStore a st).censusSlot = s.censusSlot := rfl
@[simp] theorem State.setStore_cause (a : Addr) (st : Store) : (s.setStore a st).cause = s.cause := rfl
@[simp] theorem State.setStore_enable (a : Addr) (st : Store) : (s.setStore a st).enable = s.enable := rfl
@[simp] theorem State.setStore_result (a : Addr) (st : Store) : (s.setStore a st).result = s.result := rfl
@[simp] theorem State.setStore_resultArg (a : Addr) (st : Store) : (s.setStore a st).resultArg = s.resultArg := rfl
@[simp] theorem State.setStore_args (a : Addr) (st : Store) : (s.setStore a st).args = s.args := rfl
@[simp] theorem State.setStore_tabsel (a : Addr) (st : Store) : (s.setStore a st).tabsel = s.tabsel := rfl
@[simp] theorem State.setStore_tabidx (a : Addr) (st : Store) : (s.setStore a st).tabidx = s.tabidx := rfl
@[simp] theorem State.setStore_latch (a : Addr) (st : Store) : (s.setStore a st).latch = s.latch := rfl
@[simp] theorem State.setStore_latchPointer (a : Addr) (st : Store) : (s.setStore a st).latchPointer = s.latchPointer := rfl
@[simp] theorem State.setStore_latchEnd (a : Addr) (st : Store) : (s.setStore a st).latchEnd = s.latchEnd := rfl
@[simp] theorem State.setStore_lineRate (a : Addr) (st : Store) : (s.setStore a st).lineRate = s.lineRate := rfl
@[simp] theorem State.setStore_sweepInterval (a : Addr) (st : Store) : (s.setStore a st).sweepInterval = s.sweepInterval := rfl
@[simp] theorem State.setStore_retryLimit (a : Addr) (st : Store) : (s.setStore a st).retryLimit = s.retryLimit := rfl
@[simp] theorem State.setStore_waitLimit (a : Addr) (st : Store) : (s.setStore a st).waitLimit = s.waitLimit := rfl
@[simp] theorem State.setStore_holdOffTime (a : Addr) (st : Store) : (s.setStore a st).holdOffTime = s.holdOffTime := rfl
@[simp] theorem State.setStore_missLimit (a : Addr) (st : Store) : (s.setStore a st).missLimit = s.missLimit := rfl
@[simp] theorem State.setStore_autoCensus (a : Addr) (st : Store) : (s.setStore a st).autoCensus = s.autoCensus := rfl
@[simp] theorem State.setStore_clearing (a : Addr) (st : Store) : (s.setStore a st).clearing = s.clearing := rfl
@[simp] theorem State.setStore_resetAsserted (a : Addr) (st : Store) : (s.setStore a st).resetAsserted = s.resetAsserted := rfl
@[simp] theorem State.setStore_readData (a : Addr) (st : Store) : (s.setStore a st).readData = s.readData := rfl
@[simp] theorem State.setStore_pending (a : Addr) (st : Store) : (s.setStore a st).pending = s.pending := rfl

/-! ### setCause: setting a CAUSE bit -/

@[simp] theorem State.setCause_lineState (c : Cause) : (s.setCause c).lineState = s.lineState := rfl
@[simp] theorem State.setCause_faultKind (c : Cause) : (s.setCause c).faultKind = s.faultKind := rfl
@[simp] theorem State.setCause_lineRateInForce (c : Cause) : (s.setCause c).lineRateInForce = s.lineRateInForce := rfl
@[simp] theorem State.setCause_exchange (c : Cause) : (s.setCause c).exchange = s.exchange := rfl
@[simp] theorem State.setCause_passOver (c : Cause) : (s.setCause c).passOver = s.passOver := rfl
@[simp] theorem State.setCause_roster (c : Cause) : (s.setCause c).roster = s.roster := rfl
@[simp] theorem State.setCause_bindings (c : Cause) : (s.setCause c).bindings = s.bindings := rfl
@[simp] theorem State.setCause_censusState (c : Cause) : (s.setCause c).censusState = s.censusState := rfl
@[simp] theorem State.setCause_dismissOwed (c : Cause) : (s.setCause c).dismissOwed = s.dismissOwed := rfl
@[simp] theorem State.setCause_claims (c : Cause) : (s.setCause c).claims = s.claims := rfl
@[simp] theorem State.setCause_failures (c : Cause) : (s.setCause c).failures = s.failures := rfl
@[simp] theorem State.setCause_yield (c : Cause) : (s.setCause c).yield = s.yield := rfl
@[simp] theorem State.setCause_round (c : Cause) : (s.setCause c).round = s.round := rfl
@[simp] theorem State.setCause_autoTimer (c : Cause) : (s.setCause c).autoTimer = s.autoTimer := rfl
@[simp] theorem State.setCause_fifo (c : Cause) : (s.setCause c).fifo = s.fifo := rfl
@[simp] theorem State.setCause_negotiation (c : Cause) : (s.setCause c).negotiation = s.negotiation := rfl
@[simp] theorem State.setCause_commitPending (c : Cause) : (s.setCause c).commitPending = s.commitPending := rfl
@[simp] theorem State.setCause_shadow (c : Cause) : (s.setCause c).shadow = s.shadow := rfl
@[simp] theorem State.setCause_active (c : Cause) : (s.setCause c).active = s.active := rfl
@[simp] theorem State.setCause_tickTimer (c : Cause) : (s.setCause c).tickTimer = s.tickTimer := rfl
@[simp] theorem State.setCause_tickCounter (c : Cause) : (s.setCause c).tickCounter = s.tickCounter := rfl
@[simp] theorem State.setCause_sweepPointer (c : Cause) : (s.setCause c).sweepPointer = s.sweepPointer := rfl
@[simp] theorem State.setCause_staging (c : Cause) : (s.setCause c).staging = s.staging := rfl
@[simp] theorem State.setCause_queue (c : Cause) : (s.setCause c).queue = s.queue := rfl
@[simp] theorem State.setCause_ticketCounter (c : Cause) : (s.setCause c).ticketCounter = s.ticketCounter := rfl
@[simp] theorem State.setCause_ring (c : Cause) : (s.setCause c).ring = s.ring := rfl
@[simp] theorem State.setCause_stores (c : Cause) : (s.setCause c).stores = s.stores := rfl
@[simp] theorem State.setCause_censusSlot (c : Cause) : (s.setCause c).censusSlot = s.censusSlot := rfl
@[simp] theorem State.setCause_cause (c : Cause) : (s.setCause c).cause = s.cause ||| c.bit := rfl
@[simp] theorem State.setCause_enable (c : Cause) : (s.setCause c).enable = s.enable := rfl
@[simp] theorem State.setCause_result (c : Cause) : (s.setCause c).result = s.result := rfl
@[simp] theorem State.setCause_resultArg (c : Cause) : (s.setCause c).resultArg = s.resultArg := rfl
@[simp] theorem State.setCause_args (c : Cause) : (s.setCause c).args = s.args := rfl
@[simp] theorem State.setCause_tabsel (c : Cause) : (s.setCause c).tabsel = s.tabsel := rfl
@[simp] theorem State.setCause_tabidx (c : Cause) : (s.setCause c).tabidx = s.tabidx := rfl
@[simp] theorem State.setCause_latch (c : Cause) : (s.setCause c).latch = s.latch := rfl
@[simp] theorem State.setCause_latchPointer (c : Cause) : (s.setCause c).latchPointer = s.latchPointer := rfl
@[simp] theorem State.setCause_latchEnd (c : Cause) : (s.setCause c).latchEnd = s.latchEnd := rfl
@[simp] theorem State.setCause_lineRate (c : Cause) : (s.setCause c).lineRate = s.lineRate := rfl
@[simp] theorem State.setCause_sweepInterval (c : Cause) : (s.setCause c).sweepInterval = s.sweepInterval := rfl
@[simp] theorem State.setCause_retryLimit (c : Cause) : (s.setCause c).retryLimit = s.retryLimit := rfl
@[simp] theorem State.setCause_waitLimit (c : Cause) : (s.setCause c).waitLimit = s.waitLimit := rfl
@[simp] theorem State.setCause_holdOffTime (c : Cause) : (s.setCause c).holdOffTime = s.holdOffTime := rfl
@[simp] theorem State.setCause_missLimit (c : Cause) : (s.setCause c).missLimit = s.missLimit := rfl
@[simp] theorem State.setCause_autoCensus (c : Cause) : (s.setCause c).autoCensus = s.autoCensus := rfl
@[simp] theorem State.setCause_clearing (c : Cause) : (s.setCause c).clearing = s.clearing := rfl
@[simp] theorem State.setCause_resetAsserted (c : Cause) : (s.setCause c).resetAsserted = s.resetAsserted := rfl
@[simp] theorem State.setCause_readData (c : Cause) : (s.setCause c).readData = s.readData := rfl
@[simp] theorem State.setCause_pending (c : Cause) : (s.setCause c).pending = s.pending := rfl

/-! ### answer: answering a command -/

@[simp] theorem State.answer_lineState (r : ResultCode) (argument : Byte) : (s.answer r argument).lineState = s.lineState := rfl
@[simp] theorem State.answer_faultKind (r : ResultCode) (argument : Byte) : (s.answer r argument).faultKind = s.faultKind := rfl
@[simp] theorem State.answer_lineRateInForce (r : ResultCode) (argument : Byte) : (s.answer r argument).lineRateInForce = s.lineRateInForce := rfl
@[simp] theorem State.answer_exchange (r : ResultCode) (argument : Byte) : (s.answer r argument).exchange = s.exchange := rfl
@[simp] theorem State.answer_passOver (r : ResultCode) (argument : Byte) : (s.answer r argument).passOver = s.passOver := rfl
@[simp] theorem State.answer_roster (r : ResultCode) (argument : Byte) : (s.answer r argument).roster = s.roster := rfl
@[simp] theorem State.answer_bindings (r : ResultCode) (argument : Byte) : (s.answer r argument).bindings = s.bindings := rfl
@[simp] theorem State.answer_censusState (r : ResultCode) (argument : Byte) : (s.answer r argument).censusState = s.censusState := rfl
@[simp] theorem State.answer_dismissOwed (r : ResultCode) (argument : Byte) : (s.answer r argument).dismissOwed = s.dismissOwed := rfl
@[simp] theorem State.answer_claims (r : ResultCode) (argument : Byte) : (s.answer r argument).claims = s.claims := rfl
@[simp] theorem State.answer_failures (r : ResultCode) (argument : Byte) : (s.answer r argument).failures = s.failures := rfl
@[simp] theorem State.answer_yield (r : ResultCode) (argument : Byte) : (s.answer r argument).yield = s.yield := rfl
@[simp] theorem State.answer_round (r : ResultCode) (argument : Byte) : (s.answer r argument).round = s.round := rfl
@[simp] theorem State.answer_autoTimer (r : ResultCode) (argument : Byte) : (s.answer r argument).autoTimer = s.autoTimer := rfl
@[simp] theorem State.answer_fifo (r : ResultCode) (argument : Byte) : (s.answer r argument).fifo = s.fifo := rfl
@[simp] theorem State.answer_negotiation (r : ResultCode) (argument : Byte) : (s.answer r argument).negotiation = s.negotiation := rfl
@[simp] theorem State.answer_commitPending (r : ResultCode) (argument : Byte) : (s.answer r argument).commitPending = s.commitPending := rfl
@[simp] theorem State.answer_shadow (r : ResultCode) (argument : Byte) : (s.answer r argument).shadow = s.shadow := rfl
@[simp] theorem State.answer_active (r : ResultCode) (argument : Byte) : (s.answer r argument).active = s.active := rfl
@[simp] theorem State.answer_tickTimer (r : ResultCode) (argument : Byte) : (s.answer r argument).tickTimer = s.tickTimer := rfl
@[simp] theorem State.answer_tickCounter (r : ResultCode) (argument : Byte) : (s.answer r argument).tickCounter = s.tickCounter := rfl
@[simp] theorem State.answer_sweepPointer (r : ResultCode) (argument : Byte) : (s.answer r argument).sweepPointer = s.sweepPointer := rfl
@[simp] theorem State.answer_staging (r : ResultCode) (argument : Byte) : (s.answer r argument).staging = s.staging := rfl
@[simp] theorem State.answer_queue (r : ResultCode) (argument : Byte) : (s.answer r argument).queue = s.queue := rfl
@[simp] theorem State.answer_ticketCounter (r : ResultCode) (argument : Byte) : (s.answer r argument).ticketCounter = s.ticketCounter := rfl
@[simp] theorem State.answer_ring (r : ResultCode) (argument : Byte) : (s.answer r argument).ring = s.ring := rfl
@[simp] theorem State.answer_stores (r : ResultCode) (argument : Byte) : (s.answer r argument).stores = s.stores := rfl
@[simp] theorem State.answer_censusSlot (r : ResultCode) (argument : Byte) : (s.answer r argument).censusSlot = s.censusSlot := rfl
@[simp] theorem State.answer_cause (r : ResultCode) (argument : Byte) : (s.answer r argument).cause = s.cause := rfl
@[simp] theorem State.answer_enable (r : ResultCode) (argument : Byte) : (s.answer r argument).enable = s.enable := rfl
@[simp] theorem State.answer_result (r : ResultCode) (argument : Byte) : (s.answer r argument).result = r.code := rfl
@[simp] theorem State.answer_resultArg (r : ResultCode) (argument : Byte) : (s.answer r argument).resultArg = argument := rfl
@[simp] theorem State.answer_args (r : ResultCode) (argument : Byte) : (s.answer r argument).args = s.args := rfl
@[simp] theorem State.answer_tabsel (r : ResultCode) (argument : Byte) : (s.answer r argument).tabsel = s.tabsel := rfl
@[simp] theorem State.answer_tabidx (r : ResultCode) (argument : Byte) : (s.answer r argument).tabidx = s.tabidx := rfl
@[simp] theorem State.answer_latch (r : ResultCode) (argument : Byte) : (s.answer r argument).latch = s.latch := rfl
@[simp] theorem State.answer_latchPointer (r : ResultCode) (argument : Byte) : (s.answer r argument).latchPointer = s.latchPointer := rfl
@[simp] theorem State.answer_latchEnd (r : ResultCode) (argument : Byte) : (s.answer r argument).latchEnd = s.latchEnd := rfl
@[simp] theorem State.answer_lineRate (r : ResultCode) (argument : Byte) : (s.answer r argument).lineRate = s.lineRate := rfl
@[simp] theorem State.answer_sweepInterval (r : ResultCode) (argument : Byte) : (s.answer r argument).sweepInterval = s.sweepInterval := rfl
@[simp] theorem State.answer_retryLimit (r : ResultCode) (argument : Byte) : (s.answer r argument).retryLimit = s.retryLimit := rfl
@[simp] theorem State.answer_waitLimit (r : ResultCode) (argument : Byte) : (s.answer r argument).waitLimit = s.waitLimit := rfl
@[simp] theorem State.answer_holdOffTime (r : ResultCode) (argument : Byte) : (s.answer r argument).holdOffTime = s.holdOffTime := rfl
@[simp] theorem State.answer_missLimit (r : ResultCode) (argument : Byte) : (s.answer r argument).missLimit = s.missLimit := rfl
@[simp] theorem State.answer_autoCensus (r : ResultCode) (argument : Byte) : (s.answer r argument).autoCensus = s.autoCensus := rfl
@[simp] theorem State.answer_clearing (r : ResultCode) (argument : Byte) : (s.answer r argument).clearing = s.clearing := rfl
@[simp] theorem State.answer_resetAsserted (r : ResultCode) (argument : Byte) : (s.answer r argument).resetAsserted = s.resetAsserted := rfl
@[simp] theorem State.answer_readData (r : ResultCode) (argument : Byte) : (s.answer r argument).readData = s.readData := rfl
@[simp] theorem State.answer_pending (r : ResultCode) (argument : Byte) : (s.answer r argument).pending = s.pending := rfl

/-! ### post: posting a record -/

@[simp] theorem State.post_lineState (r : Record) : (s.post r).lineState = s.lineState := rfl
@[simp] theorem State.post_faultKind (r : Record) : (s.post r).faultKind = s.faultKind := rfl
@[simp] theorem State.post_lineRateInForce (r : Record) : (s.post r).lineRateInForce = s.lineRateInForce := rfl
@[simp] theorem State.post_exchange (r : Record) : (s.post r).exchange = s.exchange := rfl
@[simp] theorem State.post_passOver (r : Record) : (s.post r).passOver = s.passOver := rfl
@[simp] theorem State.post_roster (r : Record) : (s.post r).roster = s.roster := rfl
@[simp] theorem State.post_bindings (r : Record) : (s.post r).bindings = s.bindings := rfl
@[simp] theorem State.post_censusState (r : Record) : (s.post r).censusState = s.censusState := rfl
@[simp] theorem State.post_dismissOwed (r : Record) : (s.post r).dismissOwed = s.dismissOwed := rfl
@[simp] theorem State.post_claims (r : Record) : (s.post r).claims = s.claims := rfl
@[simp] theorem State.post_failures (r : Record) : (s.post r).failures = s.failures := rfl
@[simp] theorem State.post_yield (r : Record) : (s.post r).yield = s.yield := rfl
@[simp] theorem State.post_round (r : Record) : (s.post r).round = s.round := rfl
@[simp] theorem State.post_autoTimer (r : Record) : (s.post r).autoTimer = s.autoTimer := rfl
@[simp] theorem State.post_fifo (r : Record) : (s.post r).fifo = s.fifo := rfl
@[simp] theorem State.post_negotiation (r : Record) : (s.post r).negotiation = s.negotiation := rfl
@[simp] theorem State.post_commitPending (r : Record) : (s.post r).commitPending = s.commitPending := rfl
@[simp] theorem State.post_shadow (r : Record) : (s.post r).shadow = s.shadow := rfl
@[simp] theorem State.post_active (r : Record) : (s.post r).active = s.active := rfl
@[simp] theorem State.post_tickTimer (r : Record) : (s.post r).tickTimer = s.tickTimer := rfl
@[simp] theorem State.post_tickCounter (r : Record) : (s.post r).tickCounter = s.tickCounter := rfl
@[simp] theorem State.post_sweepPointer (r : Record) : (s.post r).sweepPointer = s.sweepPointer := rfl
@[simp] theorem State.post_staging (r : Record) : (s.post r).staging = s.staging := rfl
@[simp] theorem State.post_queue (r : Record) : (s.post r).queue = s.queue := rfl
@[simp] theorem State.post_ticketCounter (r : Record) : (s.post r).ticketCounter = s.ticketCounter := rfl
@[simp] theorem State.post_ring (r : Record) : (s.post r).ring = s.ring ++ [r] := rfl
@[simp] theorem State.post_stores (r : Record) : (s.post r).stores = s.stores := rfl
@[simp] theorem State.post_censusSlot (r : Record) : (s.post r).censusSlot = s.censusSlot := rfl
@[simp] theorem State.post_cause (r : Record) : (s.post r).cause = s.cause ||| Cause.ring.bit := rfl
@[simp] theorem State.post_enable (r : Record) : (s.post r).enable = s.enable := rfl
@[simp] theorem State.post_result (r : Record) : (s.post r).result = s.result := rfl
@[simp] theorem State.post_resultArg (r : Record) : (s.post r).resultArg = s.resultArg := rfl
@[simp] theorem State.post_args (r : Record) : (s.post r).args = s.args := rfl
@[simp] theorem State.post_tabsel (r : Record) : (s.post r).tabsel = s.tabsel := rfl
@[simp] theorem State.post_tabidx (r : Record) : (s.post r).tabidx = s.tabidx := rfl
@[simp] theorem State.post_latch (r : Record) : (s.post r).latch = s.latch := rfl
@[simp] theorem State.post_latchPointer (r : Record) : (s.post r).latchPointer = s.latchPointer := rfl
@[simp] theorem State.post_latchEnd (r : Record) : (s.post r).latchEnd = s.latchEnd := rfl
@[simp] theorem State.post_lineRate (r : Record) : (s.post r).lineRate = s.lineRate := rfl
@[simp] theorem State.post_sweepInterval (r : Record) : (s.post r).sweepInterval = s.sweepInterval := rfl
@[simp] theorem State.post_retryLimit (r : Record) : (s.post r).retryLimit = s.retryLimit := rfl
@[simp] theorem State.post_waitLimit (r : Record) : (s.post r).waitLimit = s.waitLimit := rfl
@[simp] theorem State.post_holdOffTime (r : Record) : (s.post r).holdOffTime = s.holdOffTime := rfl
@[simp] theorem State.post_missLimit (r : Record) : (s.post r).missLimit = s.missLimit := rfl
@[simp] theorem State.post_autoCensus (r : Record) : (s.post r).autoCensus = s.autoCensus := rfl
@[simp] theorem State.post_clearing (r : Record) : (s.post r).clearing = s.clearing := rfl
@[simp] theorem State.post_resetAsserted (r : Record) : (s.post r).resetAsserted = s.resetAsserted := rfl
@[simp] theorem State.post_readData (r : Record) : (s.post r).readData = s.readData := rfl
@[simp] theorem State.post_pending (r : Record) : (s.post r).pending = s.pending := rfl

/-! ### modifyRequest: changing a request -/

@[simp] theorem State.modifyRequest_lineState (p : Request → Bool) (f : Request → Request) : (s.modifyRequest p f).lineState = s.lineState := rfl
@[simp] theorem State.modifyRequest_faultKind (p : Request → Bool) (f : Request → Request) : (s.modifyRequest p f).faultKind = s.faultKind := rfl
@[simp] theorem State.modifyRequest_lineRateInForce (p : Request → Bool) (f : Request → Request) : (s.modifyRequest p f).lineRateInForce = s.lineRateInForce := rfl
@[simp] theorem State.modifyRequest_exchange (p : Request → Bool) (f : Request → Request) : (s.modifyRequest p f).exchange = s.exchange := rfl
@[simp] theorem State.modifyRequest_passOver (p : Request → Bool) (f : Request → Request) : (s.modifyRequest p f).passOver = s.passOver := rfl
@[simp] theorem State.modifyRequest_roster (p : Request → Bool) (f : Request → Request) : (s.modifyRequest p f).roster = s.roster := rfl
@[simp] theorem State.modifyRequest_bindings (p : Request → Bool) (f : Request → Request) : (s.modifyRequest p f).bindings = s.bindings := rfl
@[simp] theorem State.modifyRequest_censusState (p : Request → Bool) (f : Request → Request) : (s.modifyRequest p f).censusState = s.censusState := rfl
@[simp] theorem State.modifyRequest_dismissOwed (p : Request → Bool) (f : Request → Request) : (s.modifyRequest p f).dismissOwed = s.dismissOwed := rfl
@[simp] theorem State.modifyRequest_claims (p : Request → Bool) (f : Request → Request) : (s.modifyRequest p f).claims = s.claims := rfl
@[simp] theorem State.modifyRequest_failures (p : Request → Bool) (f : Request → Request) : (s.modifyRequest p f).failures = s.failures := rfl
@[simp] theorem State.modifyRequest_yield (p : Request → Bool) (f : Request → Request) : (s.modifyRequest p f).yield = s.yield := rfl
@[simp] theorem State.modifyRequest_round (p : Request → Bool) (f : Request → Request) : (s.modifyRequest p f).round = s.round := rfl
@[simp] theorem State.modifyRequest_autoTimer (p : Request → Bool) (f : Request → Request) : (s.modifyRequest p f).autoTimer = s.autoTimer := rfl
@[simp] theorem State.modifyRequest_fifo (p : Request → Bool) (f : Request → Request) : (s.modifyRequest p f).fifo = s.fifo := rfl
@[simp] theorem State.modifyRequest_negotiation (p : Request → Bool) (f : Request → Request) : (s.modifyRequest p f).negotiation = s.negotiation := rfl
@[simp] theorem State.modifyRequest_commitPending (p : Request → Bool) (f : Request → Request) : (s.modifyRequest p f).commitPending = s.commitPending := rfl
@[simp] theorem State.modifyRequest_shadow (p : Request → Bool) (f : Request → Request) : (s.modifyRequest p f).shadow = s.shadow := rfl
@[simp] theorem State.modifyRequest_active (p : Request → Bool) (f : Request → Request) : (s.modifyRequest p f).active = s.active := rfl
@[simp] theorem State.modifyRequest_tickTimer (p : Request → Bool) (f : Request → Request) : (s.modifyRequest p f).tickTimer = s.tickTimer := rfl
@[simp] theorem State.modifyRequest_tickCounter (p : Request → Bool) (f : Request → Request) : (s.modifyRequest p f).tickCounter = s.tickCounter := rfl
@[simp] theorem State.modifyRequest_sweepPointer (p : Request → Bool) (f : Request → Request) : (s.modifyRequest p f).sweepPointer = s.sweepPointer := rfl
@[simp] theorem State.modifyRequest_staging (p : Request → Bool) (f : Request → Request) : (s.modifyRequest p f).staging = s.staging := rfl
@[simp] theorem State.modifyRequest_queue (p : Request → Bool) (f : Request → Request) : (s.modifyRequest p f).queue = updateFirst p f s.queue := rfl
@[simp] theorem State.modifyRequest_ticketCounter (p : Request → Bool) (f : Request → Request) : (s.modifyRequest p f).ticketCounter = s.ticketCounter := rfl
@[simp] theorem State.modifyRequest_ring (p : Request → Bool) (f : Request → Request) : (s.modifyRequest p f).ring = s.ring := rfl
@[simp] theorem State.modifyRequest_stores (p : Request → Bool) (f : Request → Request) : (s.modifyRequest p f).stores = s.stores := rfl
@[simp] theorem State.modifyRequest_censusSlot (p : Request → Bool) (f : Request → Request) : (s.modifyRequest p f).censusSlot = s.censusSlot := rfl
@[simp] theorem State.modifyRequest_cause (p : Request → Bool) (f : Request → Request) : (s.modifyRequest p f).cause = s.cause := rfl
@[simp] theorem State.modifyRequest_enable (p : Request → Bool) (f : Request → Request) : (s.modifyRequest p f).enable = s.enable := rfl
@[simp] theorem State.modifyRequest_result (p : Request → Bool) (f : Request → Request) : (s.modifyRequest p f).result = s.result := rfl
@[simp] theorem State.modifyRequest_resultArg (p : Request → Bool) (f : Request → Request) : (s.modifyRequest p f).resultArg = s.resultArg := rfl
@[simp] theorem State.modifyRequest_args (p : Request → Bool) (f : Request → Request) : (s.modifyRequest p f).args = s.args := rfl
@[simp] theorem State.modifyRequest_tabsel (p : Request → Bool) (f : Request → Request) : (s.modifyRequest p f).tabsel = s.tabsel := rfl
@[simp] theorem State.modifyRequest_tabidx (p : Request → Bool) (f : Request → Request) : (s.modifyRequest p f).tabidx = s.tabidx := rfl
@[simp] theorem State.modifyRequest_latch (p : Request → Bool) (f : Request → Request) : (s.modifyRequest p f).latch = s.latch := rfl
@[simp] theorem State.modifyRequest_latchPointer (p : Request → Bool) (f : Request → Request) : (s.modifyRequest p f).latchPointer = s.latchPointer := rfl
@[simp] theorem State.modifyRequest_latchEnd (p : Request → Bool) (f : Request → Request) : (s.modifyRequest p f).latchEnd = s.latchEnd := rfl
@[simp] theorem State.modifyRequest_lineRate (p : Request → Bool) (f : Request → Request) : (s.modifyRequest p f).lineRate = s.lineRate := rfl
@[simp] theorem State.modifyRequest_sweepInterval (p : Request → Bool) (f : Request → Request) : (s.modifyRequest p f).sweepInterval = s.sweepInterval := rfl
@[simp] theorem State.modifyRequest_retryLimit (p : Request → Bool) (f : Request → Request) : (s.modifyRequest p f).retryLimit = s.retryLimit := rfl
@[simp] theorem State.modifyRequest_waitLimit (p : Request → Bool) (f : Request → Request) : (s.modifyRequest p f).waitLimit = s.waitLimit := rfl
@[simp] theorem State.modifyRequest_holdOffTime (p : Request → Bool) (f : Request → Request) : (s.modifyRequest p f).holdOffTime = s.holdOffTime := rfl
@[simp] theorem State.modifyRequest_missLimit (p : Request → Bool) (f : Request → Request) : (s.modifyRequest p f).missLimit = s.missLimit := rfl
@[simp] theorem State.modifyRequest_autoCensus (p : Request → Bool) (f : Request → Request) : (s.modifyRequest p f).autoCensus = s.autoCensus := rfl
@[simp] theorem State.modifyRequest_clearing (p : Request → Bool) (f : Request → Request) : (s.modifyRequest p f).clearing = s.clearing := rfl
@[simp] theorem State.modifyRequest_resetAsserted (p : Request → Bool) (f : Request → Request) : (s.modifyRequest p f).resetAsserted = s.resetAsserted := rfl
@[simp] theorem State.modifyRequest_readData (p : Request → Bool) (f : Request → Request) : (s.modifyRequest p f).readData = s.readData := rfl
@[simp] theorem State.modifyRequest_pending (p : Request → Bool) (f : Request → Request) : (s.modifyRequest p f).pending = s.pending := rfl

/-! ### dropRequest: taking a request out -/

@[simp] theorem State.dropRequest_lineState (p : Request → Bool) : (s.dropRequest p).lineState = s.lineState := rfl
@[simp] theorem State.dropRequest_faultKind (p : Request → Bool) : (s.dropRequest p).faultKind = s.faultKind := rfl
@[simp] theorem State.dropRequest_lineRateInForce (p : Request → Bool) : (s.dropRequest p).lineRateInForce = s.lineRateInForce := rfl
@[simp] theorem State.dropRequest_exchange (p : Request → Bool) : (s.dropRequest p).exchange = s.exchange := rfl
@[simp] theorem State.dropRequest_passOver (p : Request → Bool) : (s.dropRequest p).passOver = s.passOver := rfl
@[simp] theorem State.dropRequest_roster (p : Request → Bool) : (s.dropRequest p).roster = s.roster := rfl
@[simp] theorem State.dropRequest_bindings (p : Request → Bool) : (s.dropRequest p).bindings = s.bindings := rfl
@[simp] theorem State.dropRequest_censusState (p : Request → Bool) : (s.dropRequest p).censusState = s.censusState := rfl
@[simp] theorem State.dropRequest_dismissOwed (p : Request → Bool) : (s.dropRequest p).dismissOwed = s.dismissOwed := rfl
@[simp] theorem State.dropRequest_claims (p : Request → Bool) : (s.dropRequest p).claims = s.claims := rfl
@[simp] theorem State.dropRequest_failures (p : Request → Bool) : (s.dropRequest p).failures = s.failures := rfl
@[simp] theorem State.dropRequest_yield (p : Request → Bool) : (s.dropRequest p).yield = s.yield := rfl
@[simp] theorem State.dropRequest_round (p : Request → Bool) : (s.dropRequest p).round = s.round := rfl
@[simp] theorem State.dropRequest_autoTimer (p : Request → Bool) : (s.dropRequest p).autoTimer = s.autoTimer := rfl
@[simp] theorem State.dropRequest_fifo (p : Request → Bool) : (s.dropRequest p).fifo = s.fifo := rfl
@[simp] theorem State.dropRequest_negotiation (p : Request → Bool) : (s.dropRequest p).negotiation = s.negotiation := rfl
@[simp] theorem State.dropRequest_commitPending (p : Request → Bool) : (s.dropRequest p).commitPending = s.commitPending := rfl
@[simp] theorem State.dropRequest_shadow (p : Request → Bool) : (s.dropRequest p).shadow = s.shadow := rfl
@[simp] theorem State.dropRequest_active (p : Request → Bool) : (s.dropRequest p).active = s.active := rfl
@[simp] theorem State.dropRequest_tickTimer (p : Request → Bool) : (s.dropRequest p).tickTimer = s.tickTimer := rfl
@[simp] theorem State.dropRequest_tickCounter (p : Request → Bool) : (s.dropRequest p).tickCounter = s.tickCounter := rfl
@[simp] theorem State.dropRequest_sweepPointer (p : Request → Bool) : (s.dropRequest p).sweepPointer = s.sweepPointer := rfl
@[simp] theorem State.dropRequest_staging (p : Request → Bool) : (s.dropRequest p).staging = s.staging := rfl
@[simp] theorem State.dropRequest_queue (p : Request → Bool) : (s.dropRequest p).queue = s.queue.eraseP p := rfl
@[simp] theorem State.dropRequest_ticketCounter (p : Request → Bool) : (s.dropRequest p).ticketCounter = s.ticketCounter := rfl
@[simp] theorem State.dropRequest_ring (p : Request → Bool) : (s.dropRequest p).ring = s.ring := rfl
@[simp] theorem State.dropRequest_stores (p : Request → Bool) : (s.dropRequest p).stores = s.stores := rfl
@[simp] theorem State.dropRequest_censusSlot (p : Request → Bool) : (s.dropRequest p).censusSlot = s.censusSlot := rfl
@[simp] theorem State.dropRequest_cause (p : Request → Bool) : (s.dropRequest p).cause = s.cause := rfl
@[simp] theorem State.dropRequest_enable (p : Request → Bool) : (s.dropRequest p).enable = s.enable := rfl
@[simp] theorem State.dropRequest_result (p : Request → Bool) : (s.dropRequest p).result = s.result := rfl
@[simp] theorem State.dropRequest_resultArg (p : Request → Bool) : (s.dropRequest p).resultArg = s.resultArg := rfl
@[simp] theorem State.dropRequest_args (p : Request → Bool) : (s.dropRequest p).args = s.args := rfl
@[simp] theorem State.dropRequest_tabsel (p : Request → Bool) : (s.dropRequest p).tabsel = s.tabsel := rfl
@[simp] theorem State.dropRequest_tabidx (p : Request → Bool) : (s.dropRequest p).tabidx = s.tabidx := rfl
@[simp] theorem State.dropRequest_latch (p : Request → Bool) : (s.dropRequest p).latch = s.latch := rfl
@[simp] theorem State.dropRequest_latchPointer (p : Request → Bool) : (s.dropRequest p).latchPointer = s.latchPointer := rfl
@[simp] theorem State.dropRequest_latchEnd (p : Request → Bool) : (s.dropRequest p).latchEnd = s.latchEnd := rfl
@[simp] theorem State.dropRequest_lineRate (p : Request → Bool) : (s.dropRequest p).lineRate = s.lineRate := rfl
@[simp] theorem State.dropRequest_sweepInterval (p : Request → Bool) : (s.dropRequest p).sweepInterval = s.sweepInterval := rfl
@[simp] theorem State.dropRequest_retryLimit (p : Request → Bool) : (s.dropRequest p).retryLimit = s.retryLimit := rfl
@[simp] theorem State.dropRequest_waitLimit (p : Request → Bool) : (s.dropRequest p).waitLimit = s.waitLimit := rfl
@[simp] theorem State.dropRequest_holdOffTime (p : Request → Bool) : (s.dropRequest p).holdOffTime = s.holdOffTime := rfl
@[simp] theorem State.dropRequest_missLimit (p : Request → Bool) : (s.dropRequest p).missLimit = s.missLimit := rfl
@[simp] theorem State.dropRequest_autoCensus (p : Request → Bool) : (s.dropRequest p).autoCensus = s.autoCensus := rfl
@[simp] theorem State.dropRequest_clearing (p : Request → Bool) : (s.dropRequest p).clearing = s.clearing := rfl
@[simp] theorem State.dropRequest_resetAsserted (p : Request → Bool) : (s.dropRequest p).resetAsserted = s.resetAsserted := rfl
@[simp] theorem State.dropRequest_readData (p : Request → Bool) : (s.dropRequest p).readData = s.readData := rfl
@[simp] theorem State.dropRequest_pending (p : Request → Bool) : (s.dropRequest p).pending = s.pending := rfl

/-! ### restartAutoTimer: restarting the auto-census timer -/

@[simp] theorem State.restartAutoTimer_lineState : (s.restartAutoTimer).lineState = s.lineState := rfl
@[simp] theorem State.restartAutoTimer_faultKind : (s.restartAutoTimer).faultKind = s.faultKind := rfl
@[simp] theorem State.restartAutoTimer_lineRateInForce : (s.restartAutoTimer).lineRateInForce = s.lineRateInForce := rfl
@[simp] theorem State.restartAutoTimer_exchange : (s.restartAutoTimer).exchange = s.exchange := rfl
@[simp] theorem State.restartAutoTimer_passOver : (s.restartAutoTimer).passOver = s.passOver := rfl
@[simp] theorem State.restartAutoTimer_roster : (s.restartAutoTimer).roster = s.roster := rfl
@[simp] theorem State.restartAutoTimer_bindings : (s.restartAutoTimer).bindings = s.bindings := rfl
@[simp] theorem State.restartAutoTimer_censusState : (s.restartAutoTimer).censusState = s.censusState := rfl
@[simp] theorem State.restartAutoTimer_dismissOwed : (s.restartAutoTimer).dismissOwed = s.dismissOwed := rfl
@[simp] theorem State.restartAutoTimer_claims : (s.restartAutoTimer).claims = s.claims := rfl
@[simp] theorem State.restartAutoTimer_failures : (s.restartAutoTimer).failures = s.failures := rfl
@[simp] theorem State.restartAutoTimer_yield : (s.restartAutoTimer).yield = s.yield := rfl
@[simp] theorem State.restartAutoTimer_round : (s.restartAutoTimer).round = s.round := rfl
@[simp] theorem State.restartAutoTimer_autoTimer : (s.restartAutoTimer).autoTimer = autoPeriod s.autoCensus := rfl
@[simp] theorem State.restartAutoTimer_fifo : (s.restartAutoTimer).fifo = s.fifo := rfl
@[simp] theorem State.restartAutoTimer_negotiation : (s.restartAutoTimer).negotiation = s.negotiation := rfl
@[simp] theorem State.restartAutoTimer_commitPending : (s.restartAutoTimer).commitPending = s.commitPending := rfl
@[simp] theorem State.restartAutoTimer_shadow : (s.restartAutoTimer).shadow = s.shadow := rfl
@[simp] theorem State.restartAutoTimer_active : (s.restartAutoTimer).active = s.active := rfl
@[simp] theorem State.restartAutoTimer_tickTimer : (s.restartAutoTimer).tickTimer = s.tickTimer := rfl
@[simp] theorem State.restartAutoTimer_tickCounter : (s.restartAutoTimer).tickCounter = s.tickCounter := rfl
@[simp] theorem State.restartAutoTimer_sweepPointer : (s.restartAutoTimer).sweepPointer = s.sweepPointer := rfl
@[simp] theorem State.restartAutoTimer_staging : (s.restartAutoTimer).staging = s.staging := rfl
@[simp] theorem State.restartAutoTimer_queue : (s.restartAutoTimer).queue = s.queue := rfl
@[simp] theorem State.restartAutoTimer_ticketCounter : (s.restartAutoTimer).ticketCounter = s.ticketCounter := rfl
@[simp] theorem State.restartAutoTimer_ring : (s.restartAutoTimer).ring = s.ring := rfl
@[simp] theorem State.restartAutoTimer_stores : (s.restartAutoTimer).stores = s.stores := rfl
@[simp] theorem State.restartAutoTimer_censusSlot : (s.restartAutoTimer).censusSlot = s.censusSlot := rfl
@[simp] theorem State.restartAutoTimer_cause : (s.restartAutoTimer).cause = s.cause := rfl
@[simp] theorem State.restartAutoTimer_enable : (s.restartAutoTimer).enable = s.enable := rfl
@[simp] theorem State.restartAutoTimer_result : (s.restartAutoTimer).result = s.result := rfl
@[simp] theorem State.restartAutoTimer_resultArg : (s.restartAutoTimer).resultArg = s.resultArg := rfl
@[simp] theorem State.restartAutoTimer_args : (s.restartAutoTimer).args = s.args := rfl
@[simp] theorem State.restartAutoTimer_tabsel : (s.restartAutoTimer).tabsel = s.tabsel := rfl
@[simp] theorem State.restartAutoTimer_tabidx : (s.restartAutoTimer).tabidx = s.tabidx := rfl
@[simp] theorem State.restartAutoTimer_latch : (s.restartAutoTimer).latch = s.latch := rfl
@[simp] theorem State.restartAutoTimer_latchPointer : (s.restartAutoTimer).latchPointer = s.latchPointer := rfl
@[simp] theorem State.restartAutoTimer_latchEnd : (s.restartAutoTimer).latchEnd = s.latchEnd := rfl
@[simp] theorem State.restartAutoTimer_lineRate : (s.restartAutoTimer).lineRate = s.lineRate := rfl
@[simp] theorem State.restartAutoTimer_sweepInterval : (s.restartAutoTimer).sweepInterval = s.sweepInterval := rfl
@[simp] theorem State.restartAutoTimer_retryLimit : (s.restartAutoTimer).retryLimit = s.retryLimit := rfl
@[simp] theorem State.restartAutoTimer_waitLimit : (s.restartAutoTimer).waitLimit = s.waitLimit := rfl
@[simp] theorem State.restartAutoTimer_holdOffTime : (s.restartAutoTimer).holdOffTime = s.holdOffTime := rfl
@[simp] theorem State.restartAutoTimer_missLimit : (s.restartAutoTimer).missLimit = s.missLimit := rfl
@[simp] theorem State.restartAutoTimer_autoCensus : (s.restartAutoTimer).autoCensus = s.autoCensus := rfl
@[simp] theorem State.restartAutoTimer_clearing : (s.restartAutoTimer).clearing = s.clearing := rfl
@[simp] theorem State.restartAutoTimer_resetAsserted : (s.restartAutoTimer).resetAsserted = s.resetAsserted := rfl
@[simp] theorem State.restartAutoTimer_readData : (s.restartAutoTimer).readData = s.readData := rfl
@[simp] theorem State.restartAutoTimer_pending : (s.restartAutoTimer).pending = s.pending := rfl

end

/-! ### Entries and stores -/

/-- Indexing a tabulated vector. -/
@[simp] theorem getElem_tabulate {α : Type} (n : Nat) (f : Fin n → α) (i : Nat) (h : i < n) :
    (tabulate n f)[i] = f ⟨i, h⟩ := by
  simp [tabulate]

/-- Reading the entry just replaced. -/
@[simp] theorem State.entry_setEntry_self (s : State) (a : Addr) (e : Entry) : (s.setEntry a e).entry a = e := by
  simp [State.entry, State.setEntry]

/-- Reading another entry than the one replaced. -/
theorem State.entry_setEntry_ne (s : State) {a b : Addr} (e : Entry) (h : b ≠ a) :
    (s.setEntry a e).entry b = s.entry b := by
  have : a.val ≠ b.val := fun k => h (Fin.ext k.symm)
  simp [State.entry, State.setEntry, Vector.getElem_set_ne _ _ this]

/-- Reading an entry after one is replaced. -/
theorem State.entry_setEntry (s : State) (a b : Addr) (e : Entry) :
    (s.setEntry a e).entry b = if b = a then e else s.entry b := by
  split
  · rename_i h; subst h; simp
  · rename_i h; exact s.entry_setEntry_ne e h

/-- Reading an entry after one is changed. -/
theorem State.entry_modifyEntry (s : State) (a b : Addr) (f : Entry → Entry) :
    (s.modifyEntry a f).entry b = if b = a then f (s.entry a) else s.entry b := s.entry_setEntry a b _

/-- Reading an entry after every entry is changed. -/
@[simp] theorem State.entry_mapEntries (s : State) (f : Addr → Entry → Entry) (a : Addr) :
    (s.mapEntries f).entry a = f a (s.entry a) := by
  simp [State.entry, State.mapEntries]

/-- Reading a store after one is replaced. -/
theorem State.store_setStore (s : State) (a b : Addr) (st : Store) :
    (s.setStore a st).store b = if b = a then st else s.store b := by
  split
  · rename_i h; subst h; simp [State.store, State.setStore]
  · rename_i h
    have : a.val ≠ b.val := fun k => h (Fin.ext k.symm)
    simp [State.store, State.setStore, Vector.getElem_set_ne _ _ this]

/-- An entry depends on the roster alone. -/
theorem State.entry_congr {s t : State} (h : t.roster = s.roster) (a : Addr) : t.entry a = s.entry a := by
  simp [State.entry, h]

/-- A store depends on the stores alone. -/
theorem State.store_congr {s t : State} (h : t.stores = s.stores) (a : Addr) : t.store a = s.store a := by
  simp [State.store, h]

end Sys2Proof.Machine
end

