-- ==== Sys2Proof/Laws/Command.lean ====
section
/-! SUPPORT. The command mechanism (R177): the four answers of `State.command`. -/

namespace Sys2Proof.Machine

/-- Nothing happens while RESET# is asserted (R173). -/
theorem unlessReset_asserted {s after : State} (h : s.resetAsserted = true) : s.unlessReset after = s := by
  simp [State.unlessReset, h]

/-- An event is taken once RESET# is released. -/
theorem unlessReset_released {s after : State} (h : s.resetAsserted = false) : s.unlessReset after = after := by
  simp [State.unlessReset, h]

/-- During a CLEAR every command is refused with CLEARING (R170). -/
theorem command_clearing {s : State} (r : Option ResultCode) (effect : State) (argument : Byte)
    (h : s.resetAsserted = false) (hc : s.clearing = true) :
    s.command r effect argument = s.answer .clearing 0 := by
  simp [State.command, State.unlessReset, h, hc]

/-- A refused command changes RESULT and RESULTARG alone (R177 step 3). -/
theorem command_refused {s : State} (code : ResultCode) (effect : State) (argument : Byte)
    (h : s.resetAsserted = false) (hc : s.clearing = false) :
    s.command (some code) effect argument = s.answer code 0 := by
  simp [State.command, State.unlessReset, h, hc]

/-- A taken command makes its effects and answers OK (R177 steps 3 and 4). -/
theorem command_taken {s : State} (effect : State) (argument : Byte)
    (h : s.resetAsserted = false) (hc : s.clearing = false) :
    s.command none effect argument = effect.answer .ok argument := by
  simp [State.command, State.unlessReset, h, hc]

/-- The first refusal of a list that begins with a condition that holds. -/
theorem firstRefusal_holds (r : ResultCode) (rest : List (Bool × ResultCode)) :
    firstRefusal ((true, r) :: rest) = some r := rfl

/-- A condition that does not hold is passed over. -/
theorem firstRefusal_passes (r : ResultCode) (rest : List (Bool × ResultCode)) :
    firstRefusal ((false, r) :: rest) = firstRefusal rest := rfl

/-- No refusal where no condition holds. -/
theorem firstRefusal_none (l : List (Bool × ResultCode)) (h : ∀ p ∈ l, p.1 = false) : firstRefusal l = none := by
  induction l with
  | nil => rfl
  | cons p rest ih =>
    obtain ⟨b, r⟩ := p
    have hb : b = false := h (b, r) (by simp)
    subst hb
    exact ih fun q hq => h q (by simp [hq])

end Sys2Proof.Machine
end

