-- ==== Sys2Proof/Laws/Frames.lean ====
section
/-! SUPPORT. What an operation leaves alone, said once: three relations between the state before and after, each a list
of fields that keep their values, and how they compose. -/

namespace Sys2Proof.Machine

/-- What only a host cycle, a tick or a reset changes is unchanged: the bindings, the shadow, the tick timer and
counter, the staging row and every register of the window. -/
structure SameHost (s t : State) : Prop where
  bindings : t.bindings = s.bindings
  shadow : t.shadow = s.shadow
  tickTimer : t.tickTimer = s.tickTimer
  tickCounter : t.tickCounter = s.tickCounter
  staging : t.staging = s.staging
  enable : t.enable = s.enable
  result : t.result = s.result
  resultArg : t.resultArg = s.resultArg
  args : t.args = s.args
  tabsel : t.tabsel = s.tabsel
  tabidx : t.tabidx = s.tabidx
  latch : t.latch = s.latch
  latchPointer : t.latchPointer = s.latchPointer
  latchEnd : t.latchEnd = s.latchEnd
  lineRate : t.lineRate = s.lineRate
  sweepInterval : t.sweepInterval = s.sweepInterval
  retryLimit : t.retryLimit = s.retryLimit
  waitLimit : t.waitLimit = s.waitLimit
  holdOffTime : t.holdOffTime = s.holdOffTime
  missLimit : t.missLimit = s.missLimit
  autoCensus : t.autoCensus = s.autoCensus
  resetAsserted : t.resetAsserted = s.resetAsserted
  readData : t.readData = s.readData
  pending : t.pending = s.pending

/-- Besides, what only the line engine and the arbiter change is unchanged. -/
structure SameLine (s t : State) : Prop extends SameHost s t where
  lineState : t.lineState = s.lineState
  faultKind : t.faultKind = s.faultKind
  lineRateInForce : t.lineRateInForce = s.lineRateInForce
  exchange : t.exchange = s.exchange
  passOver : t.passOver = s.passOver
  sweepPointer : t.sweepPointer = s.sweepPointer
  ticketCounter : t.ticketCounter = s.ticketCounter
  clearing : t.clearing = s.clearing

/-- Besides, the roster, the FIFO, the negotiation and census units and the active offer are unchanged: only the queue,
the ring, the waiting places and CAUSE may differ. -/
structure SameWork (s t : State) : Prop extends SameLine s t where
  roster : t.roster = s.roster
  fifo : t.fifo = s.fifo
  negotiation : t.negotiation = s.negotiation
  commitPending : t.commitPending = s.commitPending
  active : t.active = s.active
  censusState : t.censusState = s.censusState
  dismissOwed : t.dismissOwed = s.dismissOwed
  claims : t.claims = s.claims
  failures : t.failures = s.failures
  yield : t.yield = s.yield
  round : t.round = s.round
  autoTimer : t.autoTimer = s.autoTimer

/-- A state keeps its own fields. -/
theorem SameHost.refl (s : State) : SameHost s s :=
  ⟨rfl, rfl, rfl, rfl, rfl, rfl, rfl, rfl, rfl, rfl, rfl, rfl, rfl, rfl, rfl, rfl, rfl, rfl, rfl, rfl, rfl, rfl,
    rfl, rfl⟩

/-- Two operations that each keep the fields keep them together. -/
theorem SameHost.trans {s t u : State} (h : SameHost s t) (k : SameHost t u) : SameHost s u :=
  ⟨k.1.trans h.1, k.2.trans h.2, k.3.trans h.3, k.4.trans h.4, k.5.trans h.5, k.6.trans h.6, k.7.trans h.7,
    k.8.trans h.8, k.9.trans h.9, k.10.trans h.10, k.11.trans h.11, k.12.trans h.12, k.13.trans h.13, k.14.trans
    h.14, k.15.trans h.15, k.16.trans h.16, k.17.trans h.17, k.18.trans h.18, k.19.trans h.19, k.20.trans h.20,
    k.21.trans h.21, k.22.trans h.22, k.23.trans h.23, k.24.trans h.24⟩

/-- A state keeps its own fields. -/
theorem SameLine.refl (s : State) : SameLine s s :=
  ⟨SameHost.refl s, rfl, rfl, rfl, rfl, rfl, rfl, rfl, rfl⟩

/-- Two operations that each keep the fields keep them together. -/
theorem SameLine.trans {s t u : State} (h : SameLine s t) (k : SameLine t u) : SameLine s u :=
  ⟨h.1.trans k.1, k.2.trans h.2, k.3.trans h.3, k.4.trans h.4, k.5.trans h.5, k.6.trans h.6, k.7.trans h.7,
    k.8.trans h.8, k.9.trans h.9⟩

/-- A state keeps its own fields. -/
theorem SameWork.refl (s : State) : SameWork s s :=
  ⟨SameLine.refl s, rfl, rfl, rfl, rfl, rfl, rfl, rfl, rfl, rfl, rfl, rfl, rfl⟩

/-- Two operations that each keep the fields keep them together. -/
theorem SameWork.trans {s t u : State} (h : SameWork s t) (k : SameWork t u) : SameWork s u :=
  ⟨h.1.trans k.1, k.2.trans h.2, k.3.trans h.3, k.4.trans h.4, k.5.trans h.5, k.6.trans h.6, k.7.trans h.7,
    k.8.trans h.8, k.9.trans h.9, k.10.trans h.10, k.11.trans h.11, k.12.trans h.12, k.13.trans h.13⟩

end Sys2Proof.Machine
end

