-- ==== Sys2Proof/Laws/Posting.lean ====
section
/-! SUPPORT. What posting, waiting and verdicts can do: they change the queue, the ring, the waiting places and CAUSE
alone (R132, R141, R147), and they keep the occupancy law. -/

namespace Sys2Proof.Machine

/-! ## What is left alone -/

theorem post_sameWork (r : Record) (s : State) : SameWork s (s.post r) := by repeat' constructor

theorem setCause_sameWork (c : Cause) (s : State) : SameWork s (s.setCause c) := by repeat' constructor

theorem setStore_sameWork (a : Addr) (st : Store) (s : State) : SameWork s (s.setStore a st) := by repeat' constructor

theorem modifyRequest_sameWork (p : Request → Bool) (f : Request → Request) (s : State) :
    SameWork s (s.modifyRequest p f) := by repeat' constructor

theorem dropRequest_sameWork (p : Request → Bool) (s : State) : SameWork s (s.dropRequest p) := by repeat' constructor

theorem noteBacklog_sameWork (s : State) : SameWork s s.noteBacklog := by
  unfold State.noteBacklog
  split
  · exact setCause_sameWork _ _
  · exact .refl s

theorem placeWaiting_sameWork (e : EventRecord) (s : State) : SameWork s (s.placeWaiting e) := by
  unfold State.placeWaiting
  split
  · repeat' constructor
  · exact setStore_sameWork _ _ _

theorem hold_sameWork (e : EventRecord) (s : State) : SameWork s (s.hold e) :=
  (noteBacklog_sameWork s).trans (placeWaiting_sameWork e _)

/-- Raising an event holds back nothing: only the ring or a waiting place, and CAUSE, change (R147). -/
theorem raise_sameWork (e : EventRecord) (s : State) : SameWork s (s.raise e) := by
  unfold State.raise
  split
  · exact post_sameWork _ _
  · exact hold_sameWork _ _

theorem raiseAt_sameWork (a : Addr) (d : EventData) (s : State) : SameWork s (s.raiseAt a d) := raise_sameWork _ s

theorem postRequest_sameWork (r : Request) (c : Completion) (s : State) : SameWork s (s.postRequest r c) :=
  (dropRequest_sameWork _ s).trans (post_sameWork _ _)

/-- A verdict changes the queue, the ring and CAUSE alone (R132). -/
theorem giveVerdict_sameWork (t : Byte) (v : Completion) (s : State) : SameWork s (s.giveVerdict t v) := by
  unfold State.giveVerdict
  split
  · exact .refl s
  split
  · exact .refl s
  split
  · exact .refl s
  · exact postRequest_sameWork _ _ _
  · split
    · exact postRequest_sameWork _ _ _
    · exact (noteBacklog_sameWork s).trans (modifyRequest_sameWork _ _ _)

/-- Several verdicts, one after the other. -/
theorem foldVerdicts_sameWork (l : List (Byte × Completion)) (s : State) :
    SameWork s (l.foldl (fun t w => t.giveVerdict w.1 w.2) s) := by
  induction l generalizing s with
  | nil => exact .refl s
  | cons w rest ih => exact (giveVerdict_sameWork w.1 w.2 s).trans (ih _)

theorem giveVerdicts_sameWork (which : Request → Option Completion) (s : State) :
    SameWork s (s.giveVerdicts which) := foldVerdicts_sameWork _ s

theorem giveAddressVerdicts_sameWork (a : Addr) (v : Completion) (s : State) :
    SameWork s (s.giveAddressVerdicts a v) := giveVerdicts_sameWork _ s

/-! ## Lists -/

/-- Changing the first element that satisfies a test leaves the length. -/
@[simp] theorem length_updateFirst {α : Type} (p : α → Bool) (f : α → α) (l : List α) :
    (updateFirst p f l).length = l.length := by
  induction l with
  | nil => rfl
  | cons x rest ih => simp only [updateFirst]; split <;> simp [ih]

/-- Counting after the first element that satisfies a test is changed. -/
theorem countP_updateFirst {α : Type} (p q : α → Bool) (f : α → α) (l : List α) (x : α) (h : l.find? p = some x) :
    (updateFirst p f l).countP q + (if q x then 1 else 0) = l.countP q + (if q (f x) then 1 else 0) := by
  induction l with
  | nil => simp at h
  | cons y rest ih =>
    simp only [updateFirst]
    by_cases hp : p y
    · simp only [hp, ↓reduceIte, List.countP_cons]
      simp only [List.find?_cons, hp, Option.some.injEq] at h
      subst h; omega
    · simp only [hp, Bool.false_eq_true, ↓reduceIte, List.countP_cons]
      simp only [List.find?_cons, hp] at h
      have := ih h; omega

/-- Nothing is changed where no element satisfies the test. -/
theorem updateFirst_none {α : Type} (p : α → Bool) (f : α → α) (l : List α) (h : l.find? p = none) :
    updateFirst p f l = l := by
  induction l with
  | nil => rfl
  | cons y rest ih =>
    simp only [List.find?_cons] at h
    split at h
    · simp at h
    · rename_i hp; simp [updateFirst, hp, ih h]

/-- Counting after the first element that satisfies a test is taken out. -/
theorem countP_eraseP {α : Type} (p q : α → Bool) (l : List α) (x : α) (h : l.find? p = some x) :
    (l.eraseP p).countP q + (if q x then 1 else 0) = l.countP q := by
  induction l with
  | nil => simp at h
  | cons y rest ih =>
    simp only [List.find?_cons] at h
    split at h
    · rename_i hp
      simp only [Option.some.injEq] at h
      subst h
      simp [hp, List.countP_cons]
    · rename_i hp
      have := ih h
      simp only [List.eraseP_cons, hp, List.countP_cons, cond_false]
      omega

/-- The length after the first element that satisfies a test is taken out. -/
theorem length_eraseP_find {α : Type} (p : α → Bool) (l : List α) (x : α) (h : l.find? p = some x) :
    (l.eraseP p).length + 1 = l.length := by
  have hx := List.mem_of_find?_eq_some h
  have hp := List.find?_some h
  rw [List.length_eraseP_of_mem hx hp]
  have := List.length_pos_of_mem hx
  omega

/-! ## Counts of waiting items -/

/-- The items waiting, from the three places that hold them (R152). -/
def waitingOf (queue : List Request) (stores : Vector Store 24) (census : Option EventRecord) : Nat :=
  queue.countP Request.verdictWaits + (Addr.all.map fun a => (stores[a.val]).occupied).sum + census.isSome.toNat

theorem waiting_eq (s : State) : s.waiting = waitingOf s.queue s.stores s.censusSlot := rfl

/-- The reservations a queue holds (R141). -/
def reservedIn (queue : List Request) : Nat := queue.countP Request.reserved

theorem occupancy_eq (s : State) : s.occupancy = s.ring.length + reservedIn s.queue := rfl

/-- The test of R147, as the two counts. -/
theorem roomNow_iff (s : State) : s.roomNow = true ↔ s.occupancy < 16 ∧ s.waiting = 0 := by
  rw [State.roomNow, Bool.and_eq_true, decide_eq_true_eq, beq_iff_eq]; rfl

/-! ## The occupancy law (R141) -/

/-- The law of R141 as a relation of its two counts. -/
theorem occupancyLaw_congr {s t : State} (ho : t.occupancy = s.occupancy) (hw : t.waiting ≠ 0 → s.waiting ≠ 0)
    (h : s.OccupancyLaw) : t.OccupancyLaw := by
  refine ⟨ho ▸ h.1, fun k => ho ▸ h.2 (hw k)⟩

/-- Nothing the law speaks of is changed. -/
theorem occupancyLaw_of_eq {s t : State} (hq : t.queue = s.queue) (hr : t.ring = s.ring) (hs : t.stores = s.stores)
    (hc : t.censusSlot = s.censusSlot) (h : s.OccupancyLaw) : t.OccupancyLaw := by
  refine occupancyLaw_congr ?_ ?_ h
  · simp [occupancy_eq, hq, hr]
  · simp [waiting_eq, hq, hs, hc]

/-- With no room now, the law makes the sum 16 (R147: the two halves of the test agree). -/
theorem occupancy_full (s : State) (h : s.OccupancyLaw) (hr : s.roomNow ≠ true) : s.occupancy = 16 := by
  rw [Ne, roomNow_iff] at hr
  have h1 := h.1
  by_cases hw : s.waiting = 0
  · have : ¬ s.occupancy < 16 := fun k => hr ⟨k, hw⟩
    omega
  · exact h.2 hw

/-- A full sum is enough for the law. -/
theorem occupancyLaw_of_full {s : State} (h : s.occupancy = 16) : s.OccupancyLaw := ⟨by omega, fun _ => h⟩

/-- Posting raises the sum by one. -/
theorem post_occupancy (r : Record) (s : State) : (s.post r).occupancy = s.occupancy + 1 := by
  simp only [occupancy_eq, State.post_ring, State.post_queue, List.length_append, List.length_singleton]; omega

/-- Posting leaves the count of waiting items. -/
theorem post_waiting (r : Record) (s : State) : (s.post r).waiting = s.waiting := rfl

/-- A hold changes neither the ring nor the queue. -/
theorem hold_ring_queue (e : EventRecord) (s : State) : (s.hold e).ring = s.ring ∧ (s.hold e).queue = s.queue := by
  unfold State.hold State.noteBacklog State.placeWaiting
  split <;> split <;> exact ⟨rfl, rfl⟩

/-- Noting a backlog changes neither the ring nor the queue. -/
theorem noteBacklog_queue_ring (s : State) : s.noteBacklog.queue = s.queue ∧ s.noteBacklog.ring = s.ring := by
  unfold State.noteBacklog
  split <;> exact ⟨rfl, rfl⟩

/-- Raising an event keeps the occupancy law (R141, R147). -/
theorem raise_occupancyLaw (e : EventRecord) (s : State) (h : s.OccupancyLaw) : (s.raise e).OccupancyLaw := by
  unfold State.raise
  split
  · rename_i hr
    obtain ⟨ho, hw⟩ := (roomNow_iff s).mp hr
    refine ⟨by rw [post_occupancy]; omega, fun k => absurd hw k⟩
  · rename_i hr
    apply occupancyLaw_of_full
    obtain ⟨h1, h2⟩ := hold_ring_queue e s
    rw [occupancy_eq, h1, h2, ← occupancy_eq]
    exact occupancy_full s h hr

theorem raiseAt_occupancyLaw (a : Addr) (d : EventData) (s : State) (h : s.OccupancyLaw) :
    (s.raiseAt a d).OccupancyLaw := raise_occupancyLaw _ s h

/-- A request whose record is posted leaves the queue; the sum is unchanged where it held a reservation, and one more
where it did not (R118, R141). -/
theorem postRequest_occupancy (r : Request) (c : Completion) (s : State)
    (hr : s.queue.find? (Request.hasTicket r.ticket) = some r) :
    (s.postRequest r c).occupancy = s.occupancy + if r.reserved then 0 else 1 := by
  have := countP_eraseP (Request.hasTicket r.ticket) Request.reserved s.queue r hr
  simp only [State.postRequest, occupancy_eq, reservedIn, State.post_ring, State.post_queue, State.dropRequest_ring,
    State.dropRequest_queue, List.length_append, List.length_singleton]
  split at this <;> simp_all <;> omega

/-- Taking a request out of the queue does not make the count of waiting items rise from 0. -/
theorem dropRequest_waiting (p : Request → Bool) (s : State) (h : (s.dropRequest p).waiting ≠ 0) : s.waiting ≠ 0 := by
  intro k
  apply h
  rw [waiting_eq, waitingOf] at k ⊢
  simp only [State.dropRequest_queue, State.dropRequest_stores, State.dropRequest_censusSlot]
  have hq : s.queue.countP Request.verdictWaits = 0 := by omega
  have : (s.queue.eraseP p).countP Request.verdictWaits = 0 := by
    rw [List.countP_eq_zero] at hq ⊢
    exact fun x hx => hq x (List.mem_of_mem_eraseP hx)
  omega

/-- A verdict keeps the occupancy law (R132, R141). -/
theorem giveVerdict_occupancyLaw (t : Byte) (v : Completion) (s : State) (h : s.OccupancyLaw) :
    (s.giveVerdict t v).OccupancyLaw := by
  unfold State.giveVerdict
  split
  · exact h
  rename_i r hr
  have hfind : s.queue.find? (Request.hasTicket t) = some r := hr
  have ht : r.ticket = t := by
    have := List.find?_some hfind
    simpa [Request.hasTicket] using this
  subst ht
  split
  · exact h
  split
  · exact h
  · rename_i hp
    have ho := postRequest_occupancy r v s hfind
    have hres : r.reserved = true := by simp [Request.reserved, hp]
    simp only [hres, ↓reduceIte, Nat.add_zero] at ho
    exact occupancyLaw_congr ho (fun k => dropRequest_waiting _ s k) h
  · rename_i hp
    have hres : r.reserved = false := by simp [Request.reserved, hp]
    split
    · rename_i hroom
      obtain ⟨hlt, hw⟩ := (roomNow_iff s).mp hroom
      have ho := postRequest_occupancy r v s hfind
      simp only [hres, Bool.false_eq_true, ↓reduceIte] at ho
      refine ⟨by omega, fun k => absurd hw (dropRequest_waiting _ s k)⟩
    · rename_i hroom
      apply occupancyLaw_of_full
      have hfull := occupancy_full s h hroom
      have hq := (noteBacklog_queue_ring s)
      rw [occupancy_eq] at hfull ⊢
      simp only [State.modifyRequest_ring, State.modifyRequest_queue, hq.1, hq.2]
      have hc := countP_updateFirst (Request.hasTicket r.ticket) Request.reserved
        (fun q => { q with verdict := some v }) s.queue r hfind
      have : Request.reserved { r with verdict := some v } = r.reserved := rfl
      rw [this] at hc
      unfold reservedIn at hfull ⊢
      omega

/-- Verdicts in queue order keep the occupancy law. -/
theorem giveVerdicts_occupancyLaw (which : Request → Option Completion) (s : State) (h : s.OccupancyLaw) :
    (s.giveVerdicts which).OccupancyLaw := by
  unfold State.giveVerdicts
  generalize s.queue.filterMap _ = l
  induction l generalizing s with
  | nil => exact h
  | cons w rest ih => exact ih _ (giveVerdict_occupancyLaw w.1 w.2 s h)

theorem giveAddressVerdicts_occupancyLaw (a : Addr) (v : Completion) (s : State) (h : s.OccupancyLaw) :
    (s.giveAddressVerdicts a v).OccupancyLaw := giveVerdicts_occupancyLaw _ s h

/-- No verdict is given where no request is for the address (R133). -/
theorem giveAddressVerdicts_none (a : Addr) (v : Completion) (s : State) (h : ∀ r ∈ s.queue, r.address ≠ some a) :
    s.giveAddressVerdicts a v = s := by
  have hnil : (s.queue.filterMap fun (r : Request) =>
      (if r.address = some a then some v else none).map fun w => (r.ticket, w)) = [] := by
    rw [List.filterMap_eq_nil_iff]
    intro r hr
    simp [h r hr]
  simp only [State.giveAddressVerdicts, State.giveVerdicts]
  rw [hnil]
  rfl

end Sys2Proof.Machine
end

