-- ==== Sys2Proof/Laws/Units.lean ====
section
/-! SUPPORT. What the ends of exchanges can do to the state: the source's own work and the ring, and nothing of the line
engine, the arbiter or the window (R48: the source applies its end before the line is free). -/

namespace Sys2Proof.Machine

/-! ## The roster and the FIFO -/

theorem setEntry_sameLine (a : Addr) (e : Entry) (s : State) : SameLine s (s.setEntry a e) := by repeat' constructor

theorem modifyEntry_sameLine (a : Addr) (f : Entry → Entry) (s : State) : SameLine s (s.modifyEntry a f) :=
  setEntry_sameLine _ _ _

theorem mapEntries_sameLine (f : Addr → Entry → Entry) (s : State) : SameLine s (s.mapEntries f) := by
  repeat' constructor

theorem appendFifo_sameLine (a : Addr) (s : State) : SameLine s (s.appendFifo a) := by
  unfold State.appendFifo
  split
  · exact .refl s
  · repeat' constructor

theorem prependFifo_sameLine (a : Addr) (s : State) : SameLine s (s.prependFifo a) := by
  unfold State.prependFifo
  split
  · exact .refl s
  · repeat' constructor

theorem dropFifo_sameLine (a : Addr) (s : State) : SameLine s (s.dropFifo a) := by repeat' constructor

theorem enterPending_sameLine (a : Addr) (s : State) : SameLine s (s.enterPending a) :=
  (modifyEntry_sameLine a _ s).trans (appendFifo_sameLine a _)

/-- Entering LOST touches no line (R5). -/
theorem enterLost_sameLine (a : Addr) (s : State) : SameLine s (s.enterLost a) :=
  ((modifyEntry_sameLine a _ s).trans (giveAddressVerdicts_sameWork a _ _).1).trans (raiseAt_sameWork a _ _).1

/-- Becoming FREE touches no line (R5). -/
theorem becomeFree_sameLine (a : Addr) (answered : Bool) (s : State) : SameLine s (s.becomeFree a answered) :=
  ((raiseAt_sameWork a _ s).1.trans (setEntry_sameLine a _ _)).trans (dropFifo_sameLine a _)

theorem addMiss_sameLine (a : Addr) (s : State) : SameLine s (s.addMiss a) := by
  unfold State.addMiss
  dsimp only
  split
  · exact (modifyEntry_sameLine a _ s).trans (enterLost_sameLine a _)
  · exact modifyEntry_sameLine a _ s

/-! ## The end of a negotiation -/

theorem copyPendingCommit_sameLine (s : State) : SameLine s s.copyPendingCommit := by
  unfold State.copyPendingCommit
  split
  · repeat' constructor
  · exact .refl s

theorem endNegotiation_sameLine (s : State) : SameLine s s.endNegotiation :=
  SameLine.trans (t := { s with negotiation := none }) (by repeat' constructor) (copyPendingCommit_sameLine _)

theorem abandonNegotiation_sameLine (s : State) : SameLine s s.abandonNegotiation := by
  unfold State.abandonNegotiation
  split
  · exact .refl s
  · exact ((modifyEntry_sameLine _ _ s).trans (prependFifo_sameLine _ _)).trans (endNegotiation_sameLine _)

theorem endNegotiationOf_sameLine (a : Addr) (s : State) : SameLine s (s.endNegotiationOf a) := by
  unfold State.endNegotiationOf
  split
  · exact .refl s
  · split
    · exact endNegotiation_sameLine s
    · exact .refl s

/-! ## Rejoin, release, RENEGOTIATE and RELEASE -/

theorem createEntry_sameLine (u : UnitNumber) (a : Addr) (s : State) : SameLine s (s.createEntry u a) :=
  ((setEntry_sameLine a _ s).trans (appendFifo_sameLine a _)).trans (by repeat' constructor)

theorem countClaim_sameLine (s : State) : SameLine s s.countClaim := by repeat' constructor

theorem rejoin_sameLine (a : Addr) (s : State) : SameLine s (s.rejoin a) := by
  unfold State.rejoin
  refine SameLine.trans ?_ (raiseAt_sameWork a _ _).1
  refine SameLine.trans ?_ (countClaim_sameLine _)
  refine SameLine.trans ?_ (appendFifo_sameLine a _)
  refine SameLine.trans ?_ (setStore_sameWork a _ _).1
  refine SameLine.trans ?_ (modifyEntry_sameLine a _ _)
  exact (giveAddressVerdicts_sameWork a _ s).1.trans (endNegotiationOf_sameLine a _)

theorem claimReleasing_sameLine (a : Addr) (s : State) : SameLine s (s.claimReleasing a) :=
  (modifyEntry_sameLine a _ s).trans (countClaim_sameLine _)

theorem claimAccepted_sameLine (s : State) : SameLine s s.claimAccepted := by
  unfold State.claimAccepted
  split
  · exact createEntry_sameLine _ _ s
  · split
    · exact claimReleasing_sameLine _ s
    · exact rejoin_sameLine _ s
  · exact .refl s

theorem releaseEnd_sameLine (a : Addr) (e : ExchangeEnd) (s : State) : SameLine s (s.releaseEnd a e) := by
  unfold State.releaseEnd
  split <;> first
    | exact becomeFree_sameLine a _ s
    | exact .refl s

theorem releaseEntry_sameLine (a : Addr) (s : State) : SameLine s (s.releaseEntry a) := by
  unfold State.releaseEntry
  refine SameLine.trans ?_ (setStore_sameWork a _ _).1
  refine SameLine.trans ?_ (modifyEntry_sameLine a _ _)
  refine SameLine.trans ?_ (dropFifo_sameLine a _)
  exact (giveAddressVerdicts_sameWork a _ s).1.trans (endNegotiationOf_sameLine a _)

theorem assignAddress_sameLine (u : UnitNumber) (s : State) : SameLine s (s.assignAddress u).1 := by
  unfold State.assignAddress
  split
  · exact .refl s
  · split
    · exact becomeFree_sameLine _ _ s
    · exact .refl s

/-! ## The census unit -/

theorem startRun_sameLine (fresh : Bool) (s : State) : SameLine s (s.startRun fresh) := by repeat' constructor

theorem restartAutoTimer_sameLine (s : State) : SameLine s s.restartAutoTimer := by repeat' constructor

theorem closeRun_sameLine (s : State) : SameLine s s.closeRun := by repeat' constructor

theorem endRun_sameLine (o : RunOutcome) (u : UnitNumber) (s : State) : SameLine s (s.endRun o u) := by
  unfold State.endRun
  exact ((raise_sameWork _ s).1.trans (setCause_sameWork .census _).1).trans (closeRun_sameLine _)

theorem endRunLine_sameLine (s : State) : SameLine s s.endRunLine := by
  unfold State.endRunLine
  split
  · exact endRun_sameLine _ _ s
  · exact .refl s

theorem roundEndsRun_sameLine (o : RunOutcome) (u : UnitNumber) (s : State) : SameLine s (s.roundEndsRun o u) := by
  unfold State.roundEndsRun
  split <;> exact endRun_sameLine _ _ s

theorem afterRound_sameLine (s : State) : SameLine s s.afterRound := by
  unfold State.afterRound
  split
  · exact endRun_sameLine _ _ s
  split
  · exact endRun_sameLine _ _ s
  split
  · exact endRun_sameLine _ _ s
  · repeat' constructor

theorem failRound_sameLine (s : State) : SameLine s s.failRound :=
  SameLine.trans (t := { s with failures := s.failures + 1 }) (by repeat' constructor) (afterRound_sameLine _)

theorem dismissSent_sameLine (s : State) : SameLine s s.dismissSent :=
  SameLine.trans (t := { s with dismissOwed := false, failures := 0 }) (by repeat' constructor) (afterRound_sameLine _)

theorem roundSucceeds_sameLine (s : State) : SameLine s s.roundSucceeds :=
  ((claimAccepted_sameLine s).trans (by repeat' constructor)).trans (afterRound_sameLine _)

theorem censusEnd_sameLine (e : ExchangeEnd) (s : State) : SameLine s (s.censusEnd e) := by
  unfold State.censusEnd
  split <;> first
    | exact endRunLine_sameLine s
    | exact dismissSent_sameLine s
    | exact failRound_sameLine s
    | exact roundSucceeds_sameLine s
    | exact .refl s

/-! ## The negotiation unit -/

theorem failNegotiation_sameLine (n : Negotiation) (r : RefusalReason) (s : State) :
    SameLine s (s.failNegotiation n r) := by
  unfold State.failNegotiation
  refine SameLine.trans ?_ (endNegotiation_sameLine _)
  refine SameLine.trans ?_ (giveAddressVerdicts_sameWork _ _ _).1
  exact (modifyEntry_sameLine _ _ s).trans (raiseAt_sameWork _ _ _).1

theorem protocolError_sameLine (n : Negotiation) (s : State) : SameLine s (s.protocolError n) := by
  unfold State.protocolError
  split
  · exact (modifyEntry_sameLine n.address (fun e => { e with pages := [] }) s).trans (by repeat' constructor)
  · exact failNegotiation_sameLine _ _ s

theorem resolveNegotiation_sameLine (n : Negotiation) (s : State) : SameLine s (s.resolveNegotiation n) := by
  unfold State.resolveNegotiation
  dsimp only
  split
  · exact failNegotiation_sameLine _ _ s
  · refine SameLine.trans ?_ (endNegotiation_sameLine _)
    refine SameLine.trans ?_ (giveVerdicts_sameWork _ _).1
    exact (modifyEntry_sameLine _ _ s).trans (raiseAt_sameWork _ _ _).1

theorem pageKept_sameLine (n : Negotiation) (w : PageWord) (s : State) : SameLine s (s.pageKept n w) := by
  unfold State.pageKept
  dsimp only
  split
  · exact (modifyEntry_sameLine _ _ s).trans (resolveNegotiation_sameLine _ _)
  split
  · exact (modifyEntry_sameLine _ _ s).trans (failNegotiation_sameLine _ _ _)
  · exact (modifyEntry_sameLine n.address (fun e => { e with pages := keepPage e.pages w }) s).trans
      (by repeat' constructor)

theorem judgePage_sameLine (n : Negotiation) (w : PageWord) (s : State) : SameLine s (s.judgePage n w) := by
  unfold State.judgePage
  repeat' split
  all_goals first
    | exact protocolError_sameLine _ s
    | exact failNegotiation_sameLine _ _ s
    | exact pageKept_sameLine _ _ s

theorem pageWait_sameLine (n : Negotiation) (s : State) : SameLine s (s.pageWait n) := by
  unfold State.pageWait
  dsimp only
  split
  · exact protocolError_sameLine _ s
  · repeat' constructor

theorem pageEnd_sameLine (a : Addr) (e : ExchangeEnd) (s : State) : SameLine s (s.pageEnd a e) := by
  unfold State.pageEnd
  repeat' split
  all_goals first
    | exact .refl s
    | exact abandonNegotiation_sameLine s
    | exact judgePage_sameLine _ _ s
    | exact protocolError_sameLine _ s
    | exact pageWait_sameLine _ s
    | exact (enterLost_sameLine a s).trans (endNegotiation_sameLine _)

/-! ## The sweep unit -/

theorem probeReturn_sameLine (a : Addr) (s : State) : SameLine s (s.probeReturn a) := by
  unfold State.probeReturn
  refine SameLine.trans ?_ (raiseAt_sameWork _ _ _).1
  split
  · exact modifyEntry_sameLine _ _ s
  · exact enterPending_sameLine a s

theorem applyCondition_sameLine (a : Addr) (c : Condition) (s : State) : SameLine s (s.applyCondition a c) := by
  unfold State.applyCondition
  split
  · exact .refl s
  · exact (modifyEntry_sameLine _ _ s).trans (raiseAt_sameWork _ _ _).1

theorem applyAttention_sameLine (a : Addr) (c : Byte) (s : State) : SameLine s (s.applyAttention a c) := by
  unfold State.applyAttention
  dsimp only
  split
  · exact (raiseAt_sameWork a _ s).1.trans (modifyEntry_sameLine a _ _)
  · exact .refl s

theorem applyAcknowledge_sameLine (a : Addr) (k : Bool) (s : State) : SameLine s (s.applyAcknowledge a k) := by
  unfold State.applyAcknowledge
  split
  · exact modifyEntry_sameLine _ _ s
  · exact .refl s

theorem pollAnswer_sameLine (a : Addr) (k : Bool) (code : Byte) (c : Condition) (s : State) :
    SameLine s (s.pollAnswer a k code c) := by
  unfold State.pollAnswer
  dsimp only
  refine SameLine.trans ?_ (applyAttention_sameLine a code _)
  refine SameLine.trans ?_ (applyCondition_sameLine a c _)
  refine SameLine.trans ?_ (applyAcknowledge_sameLine a k _)
  split
  · exact (modifyEntry_sameLine a _ s).trans (probeReturn_sameLine a _)
  · exact modifyEntry_sameLine a _ s

theorem failedPoll_sameLine (a : Addr) (s : State) : SameLine s (s.failedPoll a) := by
  unfold State.failedPoll
  dsimp only
  split
  · exact modifyEntry_sameLine a _ s
  · exact (modifyEntry_sameLine a _ s).trans (addMiss_sameLine a _)

theorem pollEnd_sameLine (a : Addr) (k : Bool) (e : ExchangeEnd) (s : State) : SameLine s (s.pollEnd a k e) := by
  unfold State.pollEnd
  repeat' split
  all_goals first
    | exact .refl s
    | exact pollAnswer_sameLine a k _ _ s
    | exact failedPoll_sameLine a s

/-! ## The dispatcher -/

theorem completeRequest_sameWork (r : Request) (c : Completion) (reason : BitVec 4) (p : List Byte) (s : State) :
    SameWork s (s.completeRequest r c reason p) :=
  (dropRequest_sameWork _ s).trans (post_sameWork _ _)

theorem holdOrEnd_sameWork (r : Request) (s : State) : SameWork s (s.holdOrEnd r) := by
  unfold State.holdOrEnd
  repeat' split
  all_goals first
    | exact completeRequest_sameWork _ _ _ _ s
    | exact modifyRequest_sameWork _ _ s

theorem waitRequest_sameWork (r : Request) (s : State) : SameWork s (s.waitRequest r) := by
  unfold State.waitRequest
  split
  · exact completeRequest_sameWork _ _ _ _ s
  · exact holdOrEnd_sameWork _ s

theorem missFor_sameLine (r : Request) (s : State) : SameLine s (s.missFor r) := by
  unfold State.missFor
  repeat' split
  all_goals first
    | exact .refl s
    | exact addMiss_sameLine _ s

theorem requestEnd_sameLine (e : ExchangeEnd) (s : State) : SameLine s (s.requestEnd e) := by
  unfold State.requestEnd
  split
  · exact .refl s
  split
  · exact (completeRequest_sameWork _ _ _ _ s).1
  · exact (completeRequest_sameWork _ _ _ _ s).1
  · exact (completeRequest_sameWork _ _ _ _ s).1
  · exact (waitRequest_sameWork _ s).1
  · exact (completeRequest_sameWork _ _ _ _ s).1.trans (missFor_sameLine _ _)
  · exact (holdOrEnd_sameWork _ s).1
  · exact (completeRequest_sameWork _ _ _ _ s).1

/-- Whatever a source does with the end of its exchange, the line engine, the arbiter and the window are as they were
(R48). -/
theorem handEnd_sameLine (x : Exchange) (e : ExchangeEnd) (s : State) : SameLine s (s.handEnd x e) := by
  unfold State.handEnd
  split
  · exact releaseEnd_sameLine _ _ s
  · exact pageEnd_sameLine _ _ s
  · exact pollEnd_sameLine _ _ _ s
  · exact censusEnd_sameLine _ s
  · exact requestEnd_sameLine _ s
  all_goals exact .refl s

end Sys2Proof.Machine
end

