-- ==== Sys2Proof/Laws/Engine.lean ====
section
/-! SUPPORT. What the line engine and the arbiter can do to the state: nothing of the window (R188), and how each of
their operations moves the line state and the current exchange (R48). -/

namespace Sys2Proof.Machine

/-! ## What is left alone -/

theorem modifyRequest_sameHost (p : Request → Bool) (f : Request → Request) (s : State) :
    SameHost s (s.modifyRequest p f) := (modifyRequest_sameWork p f s).1.1

theorem leadIn_sameHost (x : Exchange) (s : State) : SameHost s (s.leadIn x) := by
  unfold State.leadIn
  dsimp only
  split
  · exact SameHost.trans (t := { s with exchange := some (s.exchangeAtLeadIn x), lineRateInForce := s.lineRate })
      (by repeat' constructor) (modifyRequest_sameHost _ _ _)
  · repeat' constructor

theorem lineCheck_sameHost (x : Exchange) (mda : Level) (s : State) : SameHost s (s.lineCheck x mda) := by
  unfold State.lineCheck
  split
  · exact leadIn_sameHost x s
  · repeat' constructor

theorem emptyAll_sameHost (s : State) : SameHost s s.emptyAll :=
  (endNegotiation_sameLine s).1.trans (by repeat' constructor)

theorem finishClear_sameHost (s : State) : SameHost s s.finishClear :=
  (emptyAll_sameHost s).trans (by repeat' constructor)

theorem settleYield_sameLine (s : State) : SameLine s s.settleYield := by
  unfold State.settleYield
  split
  · repeat' constructor
  · exact .refl s

theorem lineFreed_sameHost (s : State) : SameHost s s.lineFreed := by
  unfold State.lineFreed
  split
  · exact SameHost.trans (t := { s with lineState := .idle }) (by repeat' constructor) (settleYield_sameLine _).1
  · repeat' constructor
  all_goals exact .refl s

theorem drained_sameHost (s : State) : SameHost s s.drained := by
  unfold State.drained
  split
  · exact .refl s
  · exact finishClear_sameHost s

/-- The end of an exchange leaves the window alone. -/
theorem endExchange_sameHost (e : ExchangeEnd) (s : State) : SameHost s (s.endExchange e) := by
  unfold State.endExchange
  split
  · exact .refl s
  rename_i x _
  have h0 : SameHost s { s with exchange := none } := by repeat' constructor
  dsimp only
  split
  · exact (h0.trans (lineFreed_sameHost _)).trans (finishClear_sameHost _)
  split
  · exact (h0.trans (lineFreed_sameHost _)).trans (drained_sameHost _)
  · exact (h0.trans (handEnd_sameLine x e _).1).trans (lineFreed_sameHost _)

theorem loseLine_sameLine (s : State) : SameLine s s.loseLine :=
  (endRunLine_sameLine s).trans (abandonNegotiation_sameLine _)

theorem enterFault_sameHost (kind : FaultKind) (s : State) : SameHost s (s.recoveryFails kind) := by repeat' constructor

/-- A line fault leaves the window alone but for CAUSE and the states it shows. -/
theorem lineFault_sameHost (kind : FaultKind) (s : State) : SameHost s (s.lineFault kind) := by
  unfold State.lineFault
  split
  · exact .refl s
  rename_i x _
  have h0 : SameHost s { s with exchange := none } := by repeat' constructor
  dsimp only
  have h1 : SameHost s (if x.discard = true then { s with exchange := none }
      else State.handEnd x .faulted { s with exchange := none }) := by
    split
    · exact h0
    · exact h0.trans (handEnd_sameLine x .faulted _).1
  have h2 := (h1.trans (loseLine_sameLine _).1).trans (enterFault_sameHost kind _)
  split
  · exact h2.trans (finishClear_sameHost _)
  · exact h2

theorem attemptFails_sameHost (x : Exchange) (f : Failure) (s : State) : SameHost s (s.attemptFails x f) := by
  unfold State.attemptFails
  dsimp only
  have h0 : SameHost s { s with exchange := some { x with lastFailure := some f } } := by repeat' constructor
  split
  · exact h0.trans (endExchange_sameHost _ _)
  split
  · repeat' constructor
  · exact h0.trans (endExchange_sameHost _ _)

theorem noteAnswer_sameLine (f : Frame) (answer : Answer) (s : State) : SameLine s (s.noteAnswer f answer) := by
  unfold State.noteAnswer
  split
  · exact .refl s
  · exact modifyEntry_sameLine _ _ s

theorem acceptAnswer_sameHost (x : Exchange) (answer : Answer) (s : State) : SameHost s (s.acceptAnswer x answer) := by
  unfold State.acceptAnswer
  dsimp only
  split
  · exact (noteAnswer_sameLine _ _ s).1.trans (attemptFails_sameHost _ _ _)
  · exact (noteAnswer_sameLine _ _ s).1.trans (endExchange_sameHost _ _)

theorem commandTail_sameHost (x : Exchange) (s : State) : SameHost s (s.commandTail x) := by
  unfold State.commandTail
  split
  · exact endExchange_sameHost _ s
  all_goals repeat' constructor

theorem closeField_sameHost (after : State → State) (h : ∀ t, SameHost t (after t)) (s : State) :
    SameHost s (s.closeField after) :=
  (SameHost.trans (t := { s with exchange := none }) (by repeat' constructor) (h _)).trans (lineFreed_sameHost _)

theorem judgeField_sameHost (x : Exchange) (u : UnitNumber) (check : Byte) (mda : Level) (s : State) :
    SameHost s (s.judgeField x u check mda) := by
  unfold State.judgeField
  split
  · exact closeField_sameHost _ (fun t => (roundEndsRun_sameLine _ _ t).1) s
  split
  · exact closeField_sameHost _ (fun t => (failRound_sameLine t).1) s
  have h0 := (assignAddress_sameLine u s).1
  generalize s.assignAddress u = p at h0
  obtain ⟨t, chosen⟩ := p
  dsimp only at h0 ⊢
  split
  · exact h0.trans (closeField_sameHost _ (fun t => (roundEndsRun_sameLine _ _ t).1) t)
  · exact (h0.trans (by repeat' constructor)).trans (lineCheck_sameHost _ _ _)

theorem openExchange_sameHost (x : Exchange) (mda : Level) (s : State) : SameHost s (s.openExchange x mda) :=
  SameHost.trans (t := { s with lineState := .busy }) (by repeat' constructor) (lineCheck_sameHost _ _ _)

theorem interrupt_sameHost (s : State) : SameHost s s.interrupt := by
  unfold State.interrupt
  split
  · exact .refl s
  rename_i x _
  have h0 : SameHost s { s with exchange := some { x with interruptTaken := true } } := by repeat' constructor
  dsimp only
  split
  · exact h0
  · exact h0.trans (endExchange_sameHost _ _)

/-! ## The line state and the current exchange (R48) -/

/-- A lead-in keeps the line state and makes the exchange current, in phase COMMAND (R36). -/
theorem leadIn_line (x : Exchange) (s : State) :
    (s.leadIn x).lineState = s.lineState ∧ (s.leadIn x).exchange = some (s.exchangeAtLeadIn x) ∧
      (s.leadIn x).clearing = s.clearing := by
  unfold State.leadIn
  dsimp only
  split <;> exact ⟨rfl, rfl, rfl⟩

/-- A LINE CHECK keeps the line state and leaves an exchange current (R164). -/
theorem lineCheck_line (x : Exchange) (mda : Level) (s : State) :
    (s.lineCheck x mda).lineState = s.lineState ∧ (s.lineCheck x mda).exchange.isSome = true := by
  unfold State.lineCheck
  split
  · have := leadIn_line x s; exact ⟨this.1, by rw [this.2.1]; rfl⟩
  · exact ⟨rfl, rfl⟩

/-- The emptying stage keeps the line (R172). -/
theorem finishClear_line (s : State) :
    s.finishClear.lineState = s.lineState ∧ s.finishClear.exchange = s.exchange := by
  have h := endNegotiation_sameLine s
  exact ⟨h.lineState, h.exchange⟩

/-- The line state an ending exchange leaves (R48, R161). -/
def LineState.freed : LineState → LineState
  | .busy => .idle
  | .draining => .off
  | .off => .off | .idle => .idle | .fault => .fault | .recovering => .recovering

theorem lineFreed_line (s : State) :
    s.lineFreed.lineState = s.lineState.freed ∧ s.lineFreed.exchange = s.exchange := by
  unfold State.lineFreed
  cases hl : s.lineState
  case busy => exact ⟨(settleYield_sameLine _).lineState, (settleYield_sameLine _).exchange⟩
  all_goals simp [LineState.freed, hl]

theorem drained_line (s : State) : s.drained.lineState = s.lineState ∧ s.drained.exchange = s.exchange := by
  unfold State.drained
  split
  · exact ⟨rfl, rfl⟩
  · exact finishClear_line s

/-- An exchange that ends other than faulted empties the current exchange and frees the line (R48). -/
theorem endExchange_line (e : ExchangeEnd) (s : State) (h : s.exchange.isSome = true) :
    (s.endExchange e).lineState = s.lineState.freed ∧ (s.endExchange e).exchange = none := by
  unfold State.endExchange
  split
  · rename_i hx; simp [hx] at h
  rename_i x _
  dsimp only
  split
  · have h1 := lineFreed_line { s with exchange := none }
    have h2 := finishClear_line (State.lineFreed { s with exchange := none })
    exact ⟨h2.1.trans h1.1, h2.2.trans h1.2⟩
  split
  · have h1 := lineFreed_line { s with exchange := none }
    have h2 := drained_line (State.lineFreed { s with exchange := none })
    exact ⟨h2.1.trans h1.1, h2.2.trans h1.2⟩
  · have h0 := handEnd_sameLine x e { s with exchange := none }
    have h1 := lineFreed_line (State.handEnd x e { s with exchange := none })
    exact ⟨h1.1.trans (by rw [h0.lineState]), h1.2.trans h0.exchange⟩

/-- A fault found while an exchange is current leaves the line in FAULT with the kind found and no exchange (R166). -/
theorem lineFault_line (kind : FaultKind) (s : State) (h : s.exchange.isSome = true) :
    (s.lineFault kind).lineState = .fault ∧ (s.lineFault kind).exchange = none ∧
      (s.lineFault kind).faultKind = kind := by
  unfold State.lineFault
  split
  · rename_i hx; simp [hx] at h
  rename_i x _
  dsimp only
  have h1 : (if x.discard = true then { s with exchange := none }
      else State.handEnd x .faulted { s with exchange := none }).exchange = none := by
    split
    · rfl
    · exact (handEnd_sameLine x .faulted _).exchange
  generalize (if x.discard = true then { s with exchange := none }
      else State.handEnd x .faulted { s with exchange := none }) = t at h1
  have h2 := (loseLine_sameLine t).exchange.trans h1
  split
  · have h3 := finishClear_line (State.setCause .fault { t.loseLine with lineState := .fault, faultKind := kind })
    refine ⟨h3.1, h3.2.trans h2, ?_⟩
    exact (endNegotiation_sameLine _).faultKind
  · exact ⟨rfl, h2, rfl⟩

/-- Whether a request is ready depends on the roster, the queue and the ring alone (R119). -/
theorem startFirst_congr {s t : State} (hr : t.roster = s.roster) (hq : t.queue = s.queue) (hg : t.ring = s.ring)
    (older rest : List Request) : t.startFirst older rest = s.startFirst older rest := by
  have h : ∀ older r, t.requestReady older r = s.requestReady older r := by
    intro older r
    simp only [State.requestReady, State.entry, State.occupancy, State.reservations, hr, hq, hg]
    rfl
  induction rest generalizing older with
  | nil => rfl
  | cons r rest ih => simp [State.startFirst, h, ih]

/-- Whether another source is ready depends neither on the line state nor on the yield (R18, R78, R100, R119). -/
theorem otherReady_congr {s t : State} (hr : t.roster = s.roster) (hf : t.fifo = s.fifo)
    (hn : t.negotiation = s.negotiation) (hc : t.commitPending = s.commitPending)
    (hp : t.sweepPointer = s.sweepPointer) (hq : t.queue = s.queue) (hg : t.ring = s.ring) :
    t.otherReady = s.otherReady := by
  simp only [State.otherReady, State.releaseReady, State.releaseChoice, State.findEntry?, State.negotiateReady,
    State.negotiateChoice, State.sweepReady, State.sweepChoice, State.dispatchReady, State.entry,
    startFirst_congr hr hq hg, hr, hf, hn, hc, hp, hq]
  rfl

/-- The end of an exchange on a BUSY line: the line is IDLE, and the yield stands only while another source is ready
(R48, R55; log 13). -/
theorem lineFreed_busy (s : State) (h : s.lineState = .busy) :
    s.lineFreed = { s with lineState := .idle, yield := s.yield && s.otherReady } := by
  have hi : ({ s with lineState := .idle } : State).otherReady = s.otherReady :=
    otherReady_congr rfl rfl rfl rfl rfl rfl rfl
  simp only [State.lineFreed, h, State.settleYield, hi]
  cases hy : s.yield <;> cases hr : s.otherReady <;> simp

/-- On a BUSY line the yield after the end is whether another source is ready, where it was set before (R55; log 13). -/
theorem lineFreed_busy_yield (s : State) (h : s.lineState = .busy) (hy : s.yield = true) :
    s.lineFreed.yield = s.lineFreed.otherReady := by
  rw [lineFreed_busy s h, hy]
  show (true && s.otherReady) = _
  rw [Bool.true_and]
  refine Eq.symm (otherReady_congr ?_ ?_ ?_ ?_ ?_ ?_ ?_) <;> rfl
end Sys2Proof.Machine
end

