-- ==== Sys2Proof/WellFormed.lean ====
section
/-! DEFINITION. Which terms of Instr are the event their row describes. -/

namespace Sys2Proof

/-- How many bytes the coordinator clocks for a response whose length byte is this: status and length alone when
the length is above 16, otherwise status, length, payload and check byte (R26, R40). -/
def responseBytes (length : Byte) : Nat := if length.toNat ≤ 16 then length.toNat + 3 else 2

/-- The operand checks. BAD_COMMAND carries a code outside the command table (R177), REGISTER_WRITE an address
whose register has no row of its own (R184), HOLD_OFF_END a line address 1..24 (R1), RESPONSE_FRAME as many bytes
as the coordinator clocks (R26). Every other term is well formed. -/
def Instr.wellFormed : Instr → Bool
  | .badCommand code => commandOfCode code == .badCommand code
  | .registerWrite address value => writeCycle address value == .registerWrite address value
  | .holdOffEnd address => (Addr.ofNumber? address).isSome
  | .responseFrame wire _ => 2 ≤ wire.length && wire.length == responseBytes (wire.getD 1 0)
  | .lineEnable | .lineDisable | .lineRecover | .censusStart | .censusStop | .submit | .abort | .retire | .release
  | .renegotiate | .bind | .unbind | .commitOffer | .clear | .tabselWrite _ | .tabidxWrite _ | .tabdataRead
  | .tabdataWrite _ | .causeWrite _ | .enableWrite _ | .sweepivlWrite _ | .misslimWrite _ | .autocensusWrite _
  | .hardwareReset | .sweepTick | .autoCensusExpiry | .lineGrant _ | .clearDismiss _ | .lineCheckCleared
  | .clearWaitExpiry | .contention | .clockFault | .commandSent | .replyWindowExpiry | .retryGapEnd _
  | .fieldEnd _ _ _ | .recoverySuccess | .recoveryTimeout | .resetRelease => true

end Sys2Proof
end

