-- ==== Sys2Proof/Laws/PerInstr.lean ====
section
/-! SUPPORT. Families of statements about the commands as syntax, one lemma for each constructor. -/

namespace Sys2Proof.Laws.WriteCycle

/-- Whatever write cycle spells this command, it is well formed (R174, R177): no write cycle is a term that the table
does not describe. -/
def Statement (i : Instr) : Prop := ∀ (address : BitVec 5) (value : Byte), writeCycle address value = i → i.wellFormed = true

/-- A write of COMMAND spells a well-formed command. -/
theorem commandOfCode_wellFormed : ∀ code : Byte, (commandOfCode code).wellFormed = true := by decide

/-- Every write cycle spells a well-formed command. -/
theorem writeCycle_wellFormed (address : BitVec 5) (value : Byte) : (writeCycle address value).wellFormed = true := by
  generalize h : registerAt address = r
  cases r
  case command => simpa only [writeCycle, h] using commandOfCode_wellFormed value
  all_goals simp [writeCycle, h, Instr.wellFormed]

theorem lineEnable : Statement .lineEnable := fun a v h => h ▸ writeCycle_wellFormed a v

theorem lineDisable : Statement .lineDisable := fun a v h => h ▸ writeCycle_wellFormed a v

theorem lineRecover : Statement .lineRecover := fun a v h => h ▸ writeCycle_wellFormed a v

theorem censusStart : Statement .censusStart := fun a v h => h ▸ writeCycle_wellFormed a v

theorem censusStop : Statement .censusStop := fun a v h => h ▸ writeCycle_wellFormed a v

theorem submit : Statement .submit := fun a v h => h ▸ writeCycle_wellFormed a v

theorem abort : Statement .abort := fun a v h => h ▸ writeCycle_wellFormed a v

theorem retire : Statement .retire := fun a v h => h ▸ writeCycle_wellFormed a v

theorem release : Statement .release := fun a v h => h ▸ writeCycle_wellFormed a v

theorem renegotiate : Statement .renegotiate := fun a v h => h ▸ writeCycle_wellFormed a v

theorem bind : Statement .bind := fun a v h => h ▸ writeCycle_wellFormed a v

theorem unbind : Statement .unbind := fun a v h => h ▸ writeCycle_wellFormed a v

theorem commitOffer : Statement .commitOffer := fun a v h => h ▸ writeCycle_wellFormed a v

theorem clear : Statement .clear := fun a v h => h ▸ writeCycle_wellFormed a v

theorem badCommand (code : Byte) : Statement (.badCommand code) :=
  fun a v h => h ▸ writeCycle_wellFormed a v

theorem tabselWrite (value : Byte) : Statement (.tabselWrite value) :=
  fun a v h => h ▸ writeCycle_wellFormed a v

theorem tabidxWrite (value : Byte) : Statement (.tabidxWrite value) :=
  fun a v h => h ▸ writeCycle_wellFormed a v

theorem tabdataRead : Statement .tabdataRead := fun a v h => h ▸ writeCycle_wellFormed a v

theorem tabdataWrite (value : Byte) : Statement (.tabdataWrite value) :=
  fun a v h => h ▸ writeCycle_wellFormed a v

theorem causeWrite (value : Byte) : Statement (.causeWrite value) :=
  fun a v h => h ▸ writeCycle_wellFormed a v

theorem enableWrite (value : Byte) : Statement (.enableWrite value) :=
  fun a v h => h ▸ writeCycle_wellFormed a v

theorem sweepivlWrite (value : Byte) : Statement (.sweepivlWrite value) :=
  fun a v h => h ▸ writeCycle_wellFormed a v

theorem misslimWrite (value : Byte) : Statement (.misslimWrite value) :=
  fun a v h => h ▸ writeCycle_wellFormed a v

theorem autocensusWrite (value : Byte) : Statement (.autocensusWrite value) :=
  fun a v h => h ▸ writeCycle_wellFormed a v

theorem registerWrite (address : BitVec 5) (value : Byte) : Statement (.registerWrite address value) :=
  fun a v h => h ▸ writeCycle_wellFormed a v

theorem hardwareReset : Statement .hardwareReset := fun a v h => h ▸ writeCycle_wellFormed a v

theorem sweepTick : Statement .sweepTick := fun a v h => h ▸ writeCycle_wellFormed a v

theorem autoCensusExpiry : Statement .autoCensusExpiry := fun a v h => h ▸ writeCycle_wellFormed a v

theorem holdOffEnd (address : Nat) : Statement (.holdOffEnd address) :=
  fun a v h => h ▸ writeCycle_wellFormed a v

theorem lineGrant (mda : Level) : Statement (.lineGrant mda) :=
  fun a v h => h ▸ writeCycle_wellFormed a v

theorem clearDismiss (mda : Level) : Statement (.clearDismiss mda) :=
  fun a v h => h ▸ writeCycle_wellFormed a v

theorem lineCheckCleared : Statement .lineCheckCleared := fun a v h => h ▸ writeCycle_wellFormed a v

theorem clearWaitExpiry : Statement .clearWaitExpiry := fun a v h => h ▸ writeCycle_wellFormed a v

theorem contention : Statement .contention := fun a v h => h ▸ writeCycle_wellFormed a v

theorem clockFault : Statement .clockFault := fun a v h => h ▸ writeCycle_wellFormed a v

theorem commandSent : Statement .commandSent := fun a v h => h ▸ writeCycle_wellFormed a v

theorem replyWindowExpiry : Statement .replyWindowExpiry := fun a v h => h ▸ writeCycle_wellFormed a v

theorem responseFrame (wire : List Byte) (tail : Level) : Statement (.responseFrame wire tail) :=
  fun a v h => h ▸ writeCycle_wellFormed a v

theorem retryGapEnd (mda : Level) : Statement (.retryGapEnd mda) :=
  fun a v h => h ▸ writeCycle_wellFormed a v

theorem fieldEnd (unit : UnitNumber) (check : Byte) (mda : Level) : Statement (.fieldEnd unit check mda) :=
  fun a v h => h ▸ writeCycle_wellFormed a v

theorem recoverySuccess : Statement .recoverySuccess := fun a v h => h ▸ writeCycle_wellFormed a v

theorem recoveryTimeout : Statement .recoveryTimeout := fun a v h => h ▸ writeCycle_wellFormed a v

theorem resetRelease : Statement .resetRelease := fun a v h => h ▸ writeCycle_wellFormed a v

end Sys2Proof.Laws.WriteCycle
end

