-- ==== Sys2Proof/Laws/Verdicts.lean ====
section
/-! SUPPORT. What raising an event does, by the free slots of the ring (R147), and what the verdicts of one cause do to the
queue and the ring (R132, R133), each said once: with distinct tickets the verdicts are `State.withVerdictsBy`. -/

namespace Sys2Proof.Machine

/-! ## The request that holds a ticket -/

/-- The request that holds a ticket, where tickets are distinct. -/
theorem find_ticket {l1 l2 : List Request} {r : Request} (hn : ((l1 ++ r :: l2).map Request.ticket).Nodup) :
    (l1 ++ r :: l2).find? (Request.hasTicket r.ticket) = some r := by
  rw [List.find?_append, List.find?_eq_none.mpr]
  · simp [Request.hasTicket]
  · intro q hq
    simp only [Request.hasTicket, beq_iff_eq]
    intro h
    simp only [List.map_append, List.map_cons, List.nodup_append] at hn
    exact hn.2.2 _ (List.mem_map_of_mem hq) _ (by simp) h

/-- Taking that request out leaves the others in their order. -/
theorem eraseP_ticket {l1 l2 : List Request} {r : Request} (hn : ((l1 ++ r :: l2).map Request.ticket).Nodup) :
    (l1 ++ r :: l2).eraseP (Request.hasTicket r.ticket) = l1 ++ l2 := by
  rw [List.eraseP_append_right]
  · simp [Request.hasTicket]
  · intro q hq
    simp only [Request.hasTicket, beq_iff_eq]
    intro h
    simp only [List.map_append, List.map_cons, List.nodup_append] at hn
    exact hn.2.2 _ (List.mem_map_of_mem hq) _ (by simp) h

/-- Changing that request leaves the others. -/
theorem updateFirst_ticket {l1 l2 : List Request} {r : Request} (f : Request → Request)
    (hn : ((l1 ++ r :: l2).map Request.ticket).Nodup) :
    updateFirst (Request.hasTicket r.ticket) f (l1 ++ r :: l2) = l1 ++ f r :: l2 := by
  induction l1 with
  | nil => simp [updateFirst, Request.hasTicket]
  | cons q rest ih =>
    have hne : q.ticket ≠ r.ticket := by
      intro h
      simp only [List.cons_append, List.map_cons, List.nodup_cons] at hn
      exact hn.1 (by simp [h])
    simp only [List.cons_append, updateFirst]
    rw [if_neg (by simpa [Request.hasTicket] using hne), ih (by simpa using (List.nodup_cons.mp hn).2)]

/-! ## The free slots of the ring -/

/-- A new item posts at once exactly where a slot is free (R132, R147). -/
theorem roomNow_freeSlots (s : State) : s.roomNow = true ↔ 0 < s.freeSlots := by
  rw [roomNow_iff, State.freeSlots]
  split <;> omega

/-- CAUSE.RING once set stays set. -/
theorem cause_ring (c : Byte) (p : Prop) [Decidable p] : c ||| 1#8 ||| (if p then 0#8 else 1#8) = c ||| 1#8 := by
  split <;> simp [BitVec.or_assoc]

/-! ## Events about an address -/

/-- An event about an address posts while a slot is free and otherwise waits in its slot (R147 to R150, R156). -/
theorem raise_eq {e : EventRecord} {a : Addr} (h : e.address = some a) (s : State) :
    s.raise e = if 0 < s.freeSlots then { s with ring := s.ring ++ [.event e], cause := s.cause ||| 0x01 }
      else { s with
        stores := s.stores.set a.val ((s.store a).place e)
        cause := s.cause ||| if s.waiting = 0 then 0x80 else 0 } := by
  simp only [State.raise, roomNow_freeSlots]
  split
  · rfl
  · simp only [State.hold, State.noteBacklog, State.placeWaiting, h]
    split <;> simp [State.setStore, State.store, State.setCause, Cause.bit]

/-- A store in which an event has been placed holds one. -/
theorem place_occupied (st : Store) (e : EventRecord) : 0 < (st.place e).occupied := by
  simp only [Store.place, Store.occupied]
  split <;> simp

/-- After an event about an address that found no slot free, something waits (R147, R152). -/
theorem raise_waiting {e : EventRecord} {a : Addr} (h : e.address = some a) (s : State) (hf : ¬0 < s.freeSlots) :
    (s.raise e).waiting ≠ 0 := by
  rw [raise_eq h, if_neg hf, waiting_eq, waitingOf]
  have hle : ((s.store a).place e).occupied ≤
      (Addr.all.map fun b => ((s.stores.set a.val ((s.store a).place e))[b.val]).occupied).sum :=
    List.single_le_sum (by simp) _ (List.mem_map.mpr ⟨a, by simp [Addr.all], by simp⟩)
  have := place_occupied (s.store a) e
  simp only []
  omega

/-- An event takes one free slot, where there is one (R147). -/
theorem raise_freeSlots {e : EventRecord} {a : Addr} (h : e.address = some a) (s : State) :
    (s.raise e).freeSlots = s.freeSlots - 1 := by
  by_cases hf : 0 < s.freeSlots
  · have hp : s.raise e = s.post (.event e) := by rw [State.raise, if_pos ((roomNow_freeSlots s).mpr hf)]
    rw [hp, State.freeSlots, post_waiting, post_occupancy, State.freeSlots]
    split <;> omega
  · rw [State.freeSlots, if_neg (raise_waiting h s hf)]
    omega

/-- Events about one address, raised in order: the first post while a slot is free, the later ones wait in their slots
(R102, R147 to R150, R156). -/
theorem raiseAll_eq {a : Addr} (events : List EventRecord) (h : ∀ e ∈ events, e.address = some a) (s : State) :
    events.foldl (fun t e => t.raise e) s = { s with
      ring := s.ring ++ (events.take s.freeSlots).map .event
      stores := s.stores.set a.val ((events.drop s.freeSlots).foldl Store.place (s.store a))
      cause := s.cause ||| (if events.take s.freeSlots = [] then 0 else 0x01) |||
        (if s.waiting = 0 ∧ events.drop s.freeSlots ≠ [] then 0x80 else 0) } := by
  induction events generalizing s with
  | nil => simp [State.store]
  | cons e rest ih =>
    have he := h e (by simp)
    rw [List.foldl_cons, ih (fun x hx => h x (by simp [hx])), raise_freeSlots he]
    have hr := raise_eq he s
    by_cases hf : 0 < s.freeSlots
    · rw [if_pos hf] at hr
      obtain ⟨n, hn⟩ : ∃ n, s.freeSlots = n + 1 := ⟨s.freeSlots - 1, by omega⟩
      have hw : (s.raise e).waiting = s.waiting := by rw [hr]; rfl
      rw [hw, hr, hn]
      simp [State.store, cause_ring]
    · have hn : s.freeSlots = 0 := by omega
      have hw := raise_waiting he s hf
      rw [if_neg hf] at hr
      rw [hn]
      simp only [hw]
      rw [hr]
      simp [State.store]

/-! ## Verdicts in queue order -/

/-- The verdicts that one cause gives over a part of the queue, in order. -/
def State.verdictsOver (which : Request → Option Completion) (part : List Request) (s : State) : State :=
  (part.filterMap fun r => (which r).map fun v => (r.ticket, v)).foldl (fun t w => t.giveVerdict w.1 w.2) s

/-- A request that the cause does not judge gets none. -/
theorem verdictsOver_other {which : Request → Option Completion} {r : Request} (rest : List Request) (s : State)
    (h : which r = none) : s.verdictsOver which (r :: rest) = s.verdictsOver which rest := by
  simp [State.verdictsOver, h]

/-- A request that the cause judges is the first to get its verdict. -/
theorem verdictsOver_cons {which : Request → Option Completion} {v : Completion} {r : Request} (rest : List Request)
    (s : State) (h : which r = some v) :
    s.verdictsOver which (r :: rest) = (s.giveVerdict r.ticket v).verdictsOver which rest := by
  simp [State.verdictsOver, h]

/-- The verdicts over the rest of the queue, once the requests before it have been treated. -/
theorem foldVerdicts_eq (which : Request → Option Completion) (todo done : List Request) (s : State)
    (hq : s.queue = done ++ todo) (hn : ((done ++ todo).map Request.ticket).Nodup) :
    s.verdictsOver which todo =
      { s with
        queue := done ++ (splitVerdicts (openTo which) s.freeSlots todo).2
        ring := s.ring ++ (splitVerdicts (openTo which) s.freeSlots todo).1.map fun p => .request {
          address := p.1.address, ticket := p.1.ticket, result := p.2, reason := 0,
          attempts := p.1.attempts, abortRequested := p.1.abortRequested, waits := p.1.waits, payload := [] }
        cause := s.cause ||| (if (splitVerdicts (openTo which) s.freeSlots todo).1 = [] then 0 else 0x01) |||
          (if s.waiting = 0 ∧ s.freeSlots < unstartedOf (openTo which) todo then 0x80 else 0) } := by
  induction todo generalizing done s with
  | nil => simp [State.verdictsOver, splitVerdicts, ← hq, unstartedOf]
  | cons r rest ih =>
    have hfind := find_ticket hn
    have hgive (v : Completion) : s.giveVerdict r.ticket v = if r.verdict.isSome then s else match r.phase with
      | .onLine => s
      | .held => s.postRequest r v
      | .unstarted =>
        if s.roomNow then s.postRequest r v
        else s.noteBacklog.modifyRequest (Request.hasTicket r.ticket) fun q => { q with verdict := some v } := by
      cases hp : r.phase <;> simp only [State.giveVerdict, State.request?, hq, hfind, hp]
    cases hr : openTo which r with
    | some v =>
      obtain ⟨⟨hv, hp⟩, hwhich⟩ : (r.verdict = none ∧ r.phase ≠ .onLine) ∧ which r = some v := by
        unfold openTo at hr
        split at hr
        · exact ⟨‹_›, hr⟩
        · simp at hr
      have hpost : s.postRequest r v = { s with
          queue := done ++ rest
          ring := s.ring ++ [.request {
            address := r.address, ticket := r.ticket, result := v, reason := 0,
            attempts := r.attempts, abortRequested := r.abortRequested, waits := r.waits, payload := [] }]
          cause := s.cause ||| 0x01 } := by
        simp only [State.postRequest, State.post, State.dropRequest, State.setCause, Cause.bit, hq, eraseP_ticket hn, Request.record]
      have hn' : ((done ++ rest).map Request.ticket).Nodup := by
        have := hn; simp only [List.map_append, List.map_cons] at this ⊢
        exact this.sublist (List.Sublist.append_left (List.sublist_cons_self _ _) _)
      have hw' : (s.postRequest r v).waiting = s.waiting := by
        rw [hpost, waiting_eq, waiting_eq, waitingOf, waitingOf]
        simp [hq, List.countP_append, Request.verdictWaits, hv]
      have ho' : (s.postRequest r v).occupancy = s.occupancy + if r.phase = .held then 0 else 1 := by
        have := postRequest_occupancy r v s (by rw [hq]; exact hfind)
        rw [this, Request.reserved]
        cases hph : r.phase <;> simp_all
      rw [verdictsOver_cons rest s hwhich, hgive]
      by_cases hph : r.phase = .held
      · have hfree : (s.postRequest r v).freeSlots = s.freeSlots := by
          rw [State.freeSlots, hw', ho', if_pos hph]; rfl
        simp only [hv, Option.isSome_none, Bool.false_eq_true, ↓reduceIte, hph]
        rw [ih done (s.postRequest r v) (by rw [hpost]) hn', hfree, hw']
        have hcount : unstartedOf (openTo which) (r :: rest) = unstartedOf (openTo which) rest := by
          simp [unstartedOf, hph]
        simp [hpost, splitVerdicts, hr, hph, hcount, cause_ring]
      · have hun : r.phase = .unstarted := by cases h : r.phase <;> simp_all
        simp only [hv, Option.isSome_none, Bool.false_eq_true, ↓reduceIte, hun]
        have hcount : unstartedOf (openTo which) (r :: rest) = unstartedOf (openTo which) rest + 1 := by
          simp [unstartedOf, hr, hun]
        by_cases hroom : s.roomNow = true
        · have hpos := (roomNow_freeSlots s).mp hroom
          have hfree : (s.postRequest r v).freeSlots = s.freeSlots - 1 := by
            rw [State.freeSlots, hw', ho', if_neg hph, State.freeSlots]
            split <;> omega
          rw [if_pos hroom, ih done (s.postRequest r v) (by rw [hpost]) hn', hfree, hw']
          have hiff : (s.freeSlots - 1 < unstartedOf (openTo which) rest) ↔
              s.freeSlots < unstartedOf (openTo which) rest + 1 := by omega
          simp only [hcount, hiff]
          simp [hpost, splitVerdicts, hr, hun, hpos, cause_ring]
        · have hzero : s.freeSlots = 0 := by
            have := (roomNow_freeSlots s).not.mp hroom; omega
          rw [if_neg hroom]
          have hheld : s.noteBacklog.modifyRequest (Request.hasTicket r.ticket) (fun q => { q with verdict := some v }) =
              { s with
                queue := done ++ { r with verdict := some v } :: rest
                cause := s.cause ||| if s.waiting = 0 then 0x80 else 0 } := by
            simp only [State.modifyRequest, State.noteBacklog]
            split <;> simp [State.setCause, Cause.bit, hq, updateFirst_ticket _ hn]
          generalize hu : s.noteBacklog.modifyRequest (Request.hasTicket r.ticket) (fun q => { q with verdict := some v }) = u at hheld
          have huw : u.waiting ≠ 0 := by
            rw [hheld, waiting_eq, waitingOf]
            simp [List.countP_append, Request.verdictWaits, hun]
          have hufree : u.freeSlots = 0 := by rw [State.freeSlots, if_neg huw]
          rw [ih (done ++ [{ r with verdict := some v }]) u (by rw [hheld]; simp) (by simpa using hn), hufree]
          simp only [hcount, huw, hzero, false_and]
          simp [hheld, splitVerdicts, hr, hun]
          rw [BitVec.or_assoc, BitVec.or_assoc, BitVec.or_comm (if s.waiting = 0 then 128#8 else 0#8)]
    | none =>
      have hskip : s.verdictsOver which (r :: rest) = s.verdictsOver which rest := by
        cases hwhich : which r with
        | none => exact verdictsOver_other rest s hwhich
        | some v =>
          rw [verdictsOver_cons rest s hwhich, hgive]
          by_cases hv : r.verdict.isSome
          · simp [hv]
          · have : r.phase = .onLine := by
              by_contra hp
              simp [openTo, hp, hwhich, Option.not_isSome_iff_eq_none.mp hv] at hr
            simp [this]
      have hcount : unstartedOf (openTo which) (r :: rest) = unstartedOf (openTo which) rest := by simp [unstartedOf, hr]
      rw [hskip, ih (done ++ [r]) s (by simpa using hq) (by simpa using hn)]
      simp [splitVerdicts, hr, hcount]

/-- The verdicts of one cause leave the state that R132 describes. -/
theorem giveVerdicts_eq (which : Request → Option Completion) (s : State) (hn : (s.queue.map Request.ticket).Nodup) :
    s.giveVerdicts which = s.withVerdictsBy which := by
  have := foldVerdicts_eq which s.queue [] s rfl (by simpa using hn)
  simpa [State.giveVerdicts, State.withVerdictsBy, State.verdictsOver] using this

/-- One cause's verdict to the requests for an address leaves the state that R132 and R133 describe. -/
theorem giveAddressVerdicts_eq (a : Addr) (v : Completion) (s : State) (hn : (s.queue.map Request.ticket).Nodup) :
    s.giveAddressVerdicts a v = s.withVerdicts a v :=
  giveVerdicts_eq _ s hn

end Sys2Proof.Machine
end

