-- ==== Sys2Proof/Laws/Runs.lean ====
section
/-! SUPPORT. What the end of a census run, of a negotiation and of a round leaves, each as the one state or relation
of Safety.lean that the spec describes, and what an attempt leads to. -/

namespace Sys2Proof.Machine

/-- A CENSUS END posts while a slot is free and otherwise waits in the census slot (R147, R151, R156). -/
theorem raiseCensus_eq {e : EventRecord} (h : e.address = none) (s : State) :
    s.raise e = { s with
      ring := if 0 < s.freeSlots then s.ring ++ [.event e] else s.ring
      censusSlot := if 0 < s.freeSlots then s.censusSlot else some e
      cause := s.cause ||| if 0 < s.freeSlots then 0x01 else if s.waiting = 0 then 0x80 else 0 } := by
  simp only [State.raise, roomNow_freeSlots]
  by_cases hf : 0 < s.freeSlots
  · simp [hf, State.post, State.setCause, Cause.bit]
  · simp only [hf, if_false, State.hold, State.noteBacklog, State.placeWaiting, h]
    split <;> simp [State.setCause, Cause.bit]

/-- The end of a run leaves the state of R53, R70 and R71. -/
theorem endRun_eq (outcome : RunOutcome) (u : UnitNumber) (s : State) :
    s.endRun outcome u = s.withRunEnded outcome u := by
  rw [State.endRun, raiseCensus_eq rfl]
  rfl

/-- A run that is active ends with LINE (R66, R67). -/
theorem endRunLine_eq (s : State) : s.endRunLine = s.withRunLost := by
  unfold State.endRunLine State.withRunLost State.runActive
  rw [endRun_eq]
  cases s.censusState <;> rfl

/-- The end of a negotiation empties its record and copies a commit that is pending (R91, R94). -/
theorem endNegotiation_eq (s : State) : s.endNegotiation = ({ s with negotiation := none } : State).withCommitCopied := by
  unfold State.endNegotiation State.copyPendingCommit State.withCommitCopied
  cases h : s.commitPending <;> simp [h, State.setCause, Cause.bit]

/-- An abandoned negotiation leaves the state of R85 and R94. -/
theorem abandonNegotiation_eq (s : State) : s.abandonNegotiation = s.withNegotiationAbandoned := by
  unfold State.abandonNegotiation State.withNegotiationAbandoned
  cases s.negotiation with
  | none => rfl
  | some n =>
    simp only [State.endNegotiation, State.copyPendingCommit, State.prependFifo, State.modifyEntry, State.setEntry]
    by_cases hc : s.commitPending = true <;> by_cases hm : n.address ∈ s.fifo <;>
      simp [hc, hm, State.setCause, Cause.bit]

/-- The work that is lost with the line (R166). -/
theorem loseLine_eq (s : State) : s.loseLine = s.withRunLost.withNegotiationAbandoned := by
  rw [State.loseLine, endRunLine_eq, abandonNegotiation_eq]

/-- An abandoned negotiation leaves the room in the ring. -/
theorem withNegotiationAbandoned_room (s : State) :
    s.withNegotiationAbandoned.freeSlots = s.freeSlots ∧ s.withNegotiationAbandoned.waiting = s.waiting := by
  unfold State.withNegotiationAbandoned
  split <;> exact ⟨rfl, rfl⟩

/-- The end of the run and the end of the negotiation do not meet, so their order does not matter (R162, R166). -/
theorem withRunLost_abandoned (s : State) :
    s.withNegotiationAbandoned.withRunLost = s.withRunLost.withNegotiationAbandoned := by
  obtain ⟨hf, hw⟩ := withNegotiationAbandoned_room s
  by_cases hc : s.censusState = .idle
  · have : s.withNegotiationAbandoned.censusState = .idle := by
      unfold State.withNegotiationAbandoned; split <;> simpa using hc
    simp only [State.withRunLost, hc, this, if_true]
  · have : s.withNegotiationAbandoned.censusState ≠ .idle := by
      unfold State.withNegotiationAbandoned; split <;> simpa using hc
    simp only [State.withRunLost, hc, this, if_false, State.withRunEnded, hf, hw]
    unfold State.withNegotiationAbandoned
    cases hn : s.negotiation with
    | none => simp [hn]
    | some n =>
      simp only []
      congr 1
      simp only [BitVec.or_assoc]
      congr 1
      rw [BitVec.or_comm, BitVec.or_assoc]

/-- The line that an ending exchange leaves (R48, R55, R161). -/
theorem lineFreed_freed (s : State) :
    s.LineFreed ({ s with exchange := none } : State).lineFreed := by
  refine ⟨fun hb => ?_, fun hd => ?_⟩
  · have ho : ({ s with exchange := none } : State).otherReady = s.otherReady :=
      otherReady_congr rfl rfl rfl rfl rfl rfl rfl
    rw [lineFreed_busy _ (by exact hb), ho]
  · simp [State.lineFreed, hd, State.switchedOff, State.setCause, Cause.bit]

/-- A round or DISMISS whose effects stand ends as R55, R63, R65 and R66 say, and the line is freed. -/
theorem afterRound_roundOver (s : State) :
    s.RoundOver ({ s with exchange := none } : State).afterRound.lineFreed := by
  unfold State.RoundOver State.afterRound
  simp only [endRun_eq, Config.failedRounds]
  split
  · exact lineFreed_freed (s.withRunEnded .line 0)
  split
  · exact lineFreed_freed (s.withRunEnded .stopped 0)
  split
  · exact lineFreed_freed (s.withRunEnded .failedRounds 0)
  · exact lineFreed_freed { s with yield := true, round := none }

/-- An event that fails the attempt on the line does nothing else (R38, R39, R41). -/
theorem exec_failsBy {s : State} {x : Exchange} {c : Instr} {reason : Failure} (hr : s.resetAsserted = false)
    (hx : s.exchange = some x) (h : x.FailsBy c reason) : exec c s = .next (s.attemptFails x reason) := by
  rcases h with ⟨rfl, rfl, hp⟩ | ⟨he, hp, ⟨rfl, rfl⟩ | ⟨wire, tail, rfl, hj⟩⟩
  · simp [exec, execContention, State.unlessReset, hr, State.exchangeIn, hx, hp]
  · rcases hp with hp | hp <;>
    simp [exec, execReplyWindowExpiry, State.unlessReset, hr, State.exchangeIn, hx, hp, he]
  · rcases hp with hp | hp <;>
    simp [exec, execResponseFrame, State.unlessReset, hr, State.exchangeIn, hx, hp, he, Phase.inAttempt, hj]

/-- An accepted answer does nothing else (R38). -/
theorem exec_accepts {s : State} {x : Exchange} {wire : List Byte} {tail : Level} {answer : Answer}
    (hr : s.resetAsserted = false) (hx : s.exchange = some x) (he : x.shape.expectsAnswer = true)
    (hp : x.phase = .command ∨ x.phase = .reply)
    (hj : judgeResponse x.shape x.sentToggle wire tail = .ok answer) :
    exec (.responseFrame wire tail) s = .next (s.acceptAnswer x answer) := by
  rcases hp with hp | hp <;>
  simp [exec, execResponseFrame, State.unlessReset, hr, State.exchangeIn, hx, hp, he, Phase.inAttempt, hj]

/-- An end that is not discarded is handed to its source, and the line is freed (R48). -/
theorem endExchange_handed {s : State} {x : Exchange} (e : ExchangeEnd) (hx : s.exchange = some x)
    (hd : x.discard = false) (hs : x.source ≠ .clearDismiss) :
    s.endExchange e = (({ s with exchange := none } : State).handEnd x e).lineFreed := by
  simp [State.endExchange, hx, hd, hs]

/-- A failed attempt with attempts left begins a retry gap (R41). -/
theorem attemptFails_gap {s : State} {x : Exchange} (reason : Failure) (hi : x.interruptTaken = false)
    (hu : x.used < x.allowed) : s.attemptFails x reason =
      { s with exchange := some { x with phase := .retryGap, lastFailure := some reason } } := by
  simp [State.attemptFails, hi, hu]

/-- The last allowed attempt that fails ends the exchange exhausted (R45). -/
theorem attemptFails_exhausted {s : State} {x : Exchange} (reason : Failure) (hi : x.interruptTaken = false)
    (hu : x.allowed ≤ x.used) (hd : x.discard = false) (hs : x.source ≠ .clearDismiss) : s.attemptFails x reason =
      (({ s with exchange := none } : State).handEnd x (.exhausted (reason == .sequence))).lineFreed := by
  unfold State.attemptFails
  rw [if_neg (by simp [hi]), if_neg (Nat.not_lt.mpr hu)]
  exact endExchange_handed (x := { x with lastFailure := some reason }) _ rfl hd hs

/-- An attempt that fails under an interruption ends the exchange interrupted (R46). -/
theorem attemptFails_interrupted {s : State} {x : Exchange} (reason : Failure) (hi : x.interruptTaken = true)
    (hd : x.discard = false) (hs : x.source ≠ .clearDismiss) : s.attemptFails x reason =
      (({ s with exchange := none } : State).handEnd x .interrupted).lineFreed := by
  unfold State.attemptFails
  rw [if_pos hi]
  exact endExchange_handed (x := { x with lastFailure := some reason }) _ rfl hd hs

/-- An accepted answer that passes the confirm comparison ends the exchange accepted (R34, R42, R43). -/
theorem acceptAnswer_ends {s : State} {x : Exchange} {answer : Answer} (hx : s.exchange = some x)
    (hc : confirmFails x answer = false) (hd : x.discard = false) (hs : x.source ≠ .clearDismiss) :
    s.acceptAnswer x answer =
      (({ s.noteAnswer x.frame answer with exchange := none } : State).handEnd x answer.toEnd).lineFreed := by
  have hn : (s.noteAnswer x.frame answer).exchange = some x := by
    unfold State.noteAnswer
    split <;> simpa [State.modifyEntry, State.setEntry] using hx
  simp only [State.acceptAnswer, hc, Bool.false_eq_true, if_false]
  exact endExchange_handed _ hn hd hs

end Sys2Proof.Machine
end

