-- ==== Sys2Proof/Tests/Slice0.lean ====
section
/-! SUPPORT. Tests on fixed values: the operand checks, figures the spec prints, one step each of some commands, and for
every statement of Obligations.lean that has hypotheses a state and operands that meet them, clause by clause. -/

namespace Sys2Proof.Tests

open Sys2Proof.Machine

/-! ## Small states -/

/-- The unit number of the entry in these states. -/
def unitA : UnitNumber := 0x0102030405

/-- An entry with that unit number and terms. -/
def entryIn (state : EntryState) : Entry :=
  { Entry.empty with
    state := state, unit := unitA
    terms := some { payloadLimit := .bytes8, pollClass := .ticks2, attention := true, confirm := true } }

/-- An IDLE line and an empty roster. -/
def idle : State := { State.reset with lineState := .idle }

/-- An IDLE line and one entry, at line address 5. -/
def entryAt5 (e : Entry) : State := { idle with roster := idle.roster.set 4 e }

/-- An entry at line address 5 in a state. -/
def at5 (state : EntryState) : State := entryAt5 (entryIn state)

/-- A READ of four bytes of object 3 at line address 5, with ticket 7. -/
def request (phase : RequestPhase) : Request :=
  { ticket := 7, address := some 4, kind := .read, object := 3, length := 4, payload := .replicate 16 0, noRetry := false,
    phase := phase, verdict := none, attempts := 1, waits := 0, abortRequested := false }

/-- A frame to line address 5. -/
def frameTo5 (kind : FrameKind) : Frame :=
  { address := some 4, toggle := false, kind := kind, ackFlag := false, payload := [] }

/-- A frame to every node. -/
def allCall (kind : FrameKind) : Frame :=
  { address := none, toggle := false, kind := kind, ackFlag := false, payload := [] }

/-- An exchange at its first attempt of three. -/
def exchange (source : Source) (frame : Frame) (shape : AnswerShape) (phase : Phase) : Exchange :=
  { source := source, frame := frame, sentToggle := frame.toggle, shape := shape, allowed := 3, used := 1, phase := phase
    lastFailure := none, interruptTaken := false, discard := false }

/-- An exchange on a BUSY line. -/
def on (x : Exchange) (s : State) : State := { s with lineState := .busy, exchange := some x }

/-- A request under DISPATCH, awaiting its answer. -/
def dispatching : Exchange := exchange .dispatch (frameTo5 .read) (.read 4) .reply

/-- A running census. -/
def running (s : State) : State := { s with censusState := .running }

/-- An event about line address 5. -/
def eventAt5 (data : EventData) : EventRecord := { address := some 4, unit := unitA, data := data }

/-- A ring that holds 16 records. -/
def fullRing : List Record := List.replicate 16 (.event (eventAt5 .lost))

/-! ## Operand checks, each refusing an ill-formed term -/

theorem test_badCommand_listed_code_refused : (Instr.badCommand 0x01).wellFormed = false := by decide
theorem test_badCommand_wellFormed : (Instr.badCommand 0x04).wellFormed = true := by decide
theorem test_registerWrite_own_row_refused : (Instr.registerWrite 0x06 0x01).wellFormed = false := by decide
theorem test_registerWrite_wellFormed : (Instr.registerWrite 0x17 0x01).wellFormed = true := by decide
theorem test_holdOffEnd_zero_refused : (Instr.holdOffEnd 0).wellFormed = false := by decide
theorem test_holdOffEnd_above_refused : (Instr.holdOffEnd 25).wellFormed = false := by decide
theorem test_holdOffEnd_wellFormed : (Instr.holdOffEnd 24).wellFormed = true := by decide
theorem test_responseFrame_short_refused : (Instr.responseFrame [0x01, 0x01, 0x00] .recessive).wellFormed = false := by
  decide
theorem test_responseFrame_wellFormed : (Instr.responseFrame [0x01, 0x00, 0x9A] .recessive).wellFormed = true := by decide

/-! ## The check byte and the arbitration field -/

set_option maxRecDepth 20000 in
theorem test_checkByte_confirmation : checkByte [0x31, 0x32, 0x33, 0x34, 0x35, 0x36, 0x37, 0x38, 0x39] = 0xF7 := by decide
set_option maxRecDepth 20000 in
theorem test_lowest_unit_wins : fieldUnit [0x000000A7, 0x00000093, 0x000000C1] = 0x00000093 := by decide
theorem test_empty_field_reads_all_ones : fieldUnit [] = 0xFFFFFFFFFF ∧ fieldCheck [] = 0xFF := by decide

/-! ## Single steps -/

/-- The state after a command. -/
def after (c : Instr) (s : State) : Option State :=
  match exec c s with
  | .next t => some t
  | .fault _ | .refused _ => none

/-- Two commands in a row. -/
def then2 (c d : Instr) (s : State) : Option State := (after c s).bind (after d)

/-- RESULT and RESULTARG after a command. -/
def answerOf (c : Instr) (s : State) : Option (Byte × Byte) := (after c s).map fun t => (t.result, t.resultArg)

/-- A staging row for a READ of four bytes of object 3 at line address 5. -/
def staged (s : State) : State :=
  { s with staging := #v[2, 5, 3, 4, 0, 0, 0, 0, 0, 0, 0, 0, 0, 0, 0, 0, 0, 0, 0, 0, 0] }

/-- A state with ARG0 set. -/
def arg0 (b : Byte) (s : State) : State := { s with args := s.args.set 0 b }

theorem test_lineEnable : (after .lineEnable State.reset).map State.lineState = some .idle := by decide
theorem test_lineDisable : (after .lineDisable idle).map State.lineState = some .off := by decide
theorem test_lineRecover : answerOf .lineRecover idle = some (0x05, 0) := by decide
theorem test_censusStart : (after .censusStart idle).map State.censusState = some .running := by decide
theorem test_censusStop : answerOf .censusStop idle = some (0x07, 0) := by decide
theorem test_submit : answerOf .submit { staged (at5 .active) with ticketCounter := 9 } = some (0x00, 9) := by decide
theorem test_abort : answerOf .abort (arg0 7 { idle with queue := [request .held] }) = some (0x00, 0) := by decide
theorem test_retire : answerOf .retire idle = some (0x0F, 0) := by decide
theorem test_release : (after .release (arg0 5 (at5 .active))).map (fun t => (t.entry 4).state) = some .releasing := by
  decide
theorem test_renegotiate : (after .renegotiate (arg0 5 (at5 .refused))).map State.fifo = some [4] := by decide
theorem test_bind : (after .bind { idle with args := #v[5, 1, 2, 3, 4, 5] }).map (fun t => t.bindings[0]) =
    some (some { address := 4, unit := unitA }) := by decide
theorem test_unbind : answerOf .unbind (arg0 5 idle) = some (0x13, 0) := by decide
theorem test_commitOffer : (after .commitOffer idle).map State.cause = some 0x04 := by decide
theorem test_clear : (after .clear State.reset).map State.cause = some 0x20 := by decide
theorem test_badCommand : answerOf (.badCommand 0x55) { idle with clearing := true } = some (0x01, 0) := by decide
theorem test_tabselWrite : (after (.tabselWrite 6) idle).map State.latchEnd = some 24 := by decide
theorem test_tabidxWrite : (after (.tabidxWrite 5) { at5 .active with tabsel := 1 }).map (fun t => t.latch[0]) = some 3 := by
  decide
theorem test_tabdataRead : (then2 (.tabselWrite 4) .tabdataRead idle).map State.readData = some 0x01 := by decide
theorem test_tabdataWrite : (then2 (.tabselWrite 5) (.tabdataWrite 0x2A) idle).map (fun t => t.staging[0]) = some 0x2A := by
  decide
theorem test_causeWrite : (after (.causeWrite 0x11) { idle with cause := 0x13 }).map State.cause = some 0x02 := by decide
theorem test_enableWrite : (after (.enableWrite 0x01) { idle with cause := 0x01 }).map State.irqAsserted = some true := by
  decide
theorem test_sweepivlWrite : (after (.sweepivlWrite 0) idle).map State.sweepInterval = some 1 := by decide
theorem test_misslimWrite : (after (.misslimWrite 0xFF) idle).map State.missLimit = some 15 := by decide
theorem test_autocensusWrite : (after (.autocensusWrite 3) idle).map State.autoTimer = some (some 600) := by decide
theorem test_registerWrite : (after (.registerWrite 0x15 9) idle).map State.lineRate = some 5 := by decide
theorem test_hardwareReset : (then2 .hardwareReset .resetRelease (at5 .active)) = some State.reset := by decide
theorem test_sweepTick : (after .sweepTick idle).map State.tickCounter = some 1 := by decide
theorem test_autoCensusExpiry : (after .autoCensusExpiry { idle with autoTimer := some 1 }).map State.censusState =
    some .running := by decide
theorem test_holdOffEnd : (after (.holdOffEnd 5) (entryAt5 { entryIn .active with holdOff := some 3 })).map
    (fun t => (t.entry 4).holdOff) = some none := by decide
theorem test_lineGrant : (after (.lineGrant .recessive) (entryAt5 { entryIn .active with due := true })).map
    (fun t => t.sweepPointer) = some 5 := by decide
theorem test_clearDismiss : (then2 (.clearDismiss .recessive) .commandSent { idle with clearing := true }).map State.cause =
    some 0x20 := by decide
theorem test_lineCheckCleared : (after .lineCheckCleared
    (on (exchange .sweep (frameTo5 .poll) .poll .lineCheck) (at5 .active))).map State.exchange =
    some (some { exchange .sweep (frameTo5 .poll) .poll .command with used := 2 }) := by decide
theorem test_clearWaitExpiry : (after .clearWaitExpiry
    (on (exchange .sweep (frameTo5 .poll) .poll .lineCheck) (at5 .active))).map State.faultKind = some .stuck := by decide
theorem test_contention : (after .contention
    (on (exchange .sweep (frameTo5 .poll) .poll .command) (at5 .active))).map State.lineState = some .busy := by decide
theorem test_clockFault : (after .clockFault { idle with lineState := .recovering }).map State.faultKind = some .clock := by
  decide
theorem test_replyWindowExpiry : (after .replyWindowExpiry
    (on { exchange .sweep (frameTo5 .poll) .poll .reply with used := 3 } (at5 .active))).map
    (fun t => (t.entry 4).misses) = some 1 := by decide
set_option maxRecDepth 20000 in
theorem test_responseFrame : (after (.responseFrame ((Answer.ack [1, 2, 3]).wire false) .recessive)
    (on dispatching { at5 .active with queue := [request .onLine] })).map (fun t => (t.ring.length, t.queue.length)) =
    some (1, 0) := by decide
theorem test_retryGapEnd : (after (.retryGapEnd .dominant)
    (on (exchange .sweep (frameTo5 .poll) .poll .retryGap) (at5 .active))).map (fun t => t.exchange.map Exchange.phase) =
    some (some .lineCheck) := by decide
set_option maxRecDepth 20000 in
theorem test_fieldEnd : (after (.fieldEnd unitA (checkByte (unitBytes unitA)) .recessive)
    (on (exchange .census (allCall .census) .field .field) { running idle with round := some .field })).map State.round =
    some (some (.claim unitA 0 false)) := by decide
theorem test_recoverySuccess : (after .recoverySuccess { idle with lineState := .recovering }).map State.cause =
    some 0x40 := by decide
theorem test_recoveryTimeout : (after .recoveryTimeout { idle with lineState := .recovering }).map State.faultKind =
    some .stuck := by decide
set_option maxRecDepth 20000 in
/-- A REFUSE to a poll on a draining line flips the toggle and leaves the poll owed (R34, R162; log 24). -/
theorem test_refused_poll_draining : (after (.responseFrame ((Answer.refuse 1).wire false) .recessive)
    { on { exchange .sweep (frameTo5 .poll) .poll .reply with interruptTaken := true }
      (entryAt5 { entryIn .active with due := true, misses := 2 }) with lineState := .draining }).map
    (fun t => ((t.entry 4).toggle, (t.entry 4).due, (t.entry 4).misses)) = some (true, true, 2) := by decide
set_option maxRecDepth 20000 in
/-- A response with bit 6 of its status byte set is judged as if it were 0, the check byte included (R192; log 29). -/
theorem test_status_bit6_not_read :
    judgeResponse .release false [0x41, 0x00, checkByte [0x01, 0x00]] .recessive = .ok (.ack []) ∧
    judgeResponse .release false [0x41, 0x00, checkByte [0x41, 0x00]] .recessive = .error .check := by decide
set_option maxRecDepth 20000 in
/-- A node page with unused bits set is read with them 0 (R73, R192; log 29). -/
theorem test_page_unused_bits_not_read :
    judgeResponse (.page 0) false (((Answer.ack [0x0F, 0xC0, 0x00]).wire false).set 3 0xCF) .recessive =
      .ok (.ack [0x0F, 0xC0, 0x00]) := by decide
set_option maxRecDepth 20000 in
/-- A CLAIM accepted on a draining line keeps the failure count (R66; log 27). -/
theorem test_claim_draining_keeps_failures : (after (.responseFrame ((Answer.ack []).wire false) .recessive)
    { on { exchange .census (allCall .claim) .claim .reply with interruptTaken := true }
      { running idle with round := some (.claim unitA 4 false), failures := 2 } with lineState := .draining }).map
    (fun t => (t.failures, (t.entry 4).state)) = some (2, .pending) := by decide
/-- A NULL page of the offer is sent with plain count 0 and carries no binding (R73, R76; log 22). -/
theorem test_null_page_sent : pageSent 0x2008 = 0x2000 ∧ pageSent 0x2048 = 0x2048 := by decide
theorem test_step_empty_queue : step State.reset = .next State.reset := by rfl
theorem test_decode_no_bits : decodeTableWord 8 0x01 = none := by decide

/-! ## The hypotheses of the statements can be met -/

/-- The negotiation of line address 5, at its first page. -/
def negotiation5 : Negotiation := { address := 4, next := 0, restarts := 0, waits := 0 }

/-- Bindings with one row: line address 5 and its unit. -/
def boundAt5 (s : State) : State := { s with bindings := s.bindings.set 0 (some { address := 4, unit := unitA }) }

/-- A command's arguments: line address 5 and its unit. -/
def bindArgs (s : State) : State := { s with args := #v[5, 1, 2, 3, 4, 5] }

/-- An exchange that an interruption has reached. -/
def interrupted (x : Exchange) : Exchange := { x with interruptTaken := true }

/-- A CENSUS field on the line. -/
def field : Exchange := exchange .census (allCall .census) .field .field

/-- A CLAIM on the line. -/
def claim : Exchange := exchange .census (allCall .claim) .claim .reply

/-- The exchange of a source between two attempts. -/
def between (source : Source) (phase : Phase) : Exchange := exchange source (frameTo5 .poll) .poll phase

/-- An addressed WRITE of one byte awaiting its answer, with its confirm byte or without. -/
def writing (confirm : Bool) : Exchange :=
  exchange .dispatch { frameTo5 .write with payload := [9] } (.write confirm) .reply

set_option maxRecDepth 20000 in
/-- Every way in which an attempt fails occurs, in the phases COMMAND and REPLY (R38, R39). -/
theorem witness_FailsBy :
    (∀ x : Exchange, x.phase = .command → x.FailsBy .contention .contention) ∧
    (∀ x : Exchange, x.shape.expectsAnswer = true → x.phase = .reply → x.FailsBy .replyWindowExpiry .noAnswer) ∧
    ∃ reason, dispatching.FailsBy (.responseFrame ((Answer.ack []).wire true) .dominant) reason :=
  ⟨fun _ hp => .inl ⟨rfl, rfl, hp⟩, fun _ he hp => .inr ⟨he, .inr hp, .inl ⟨rfl, rfl⟩⟩,
    .sequence, .inr ⟨rfl, .inr rfl, .inr ⟨_, _, rfl, by decide⟩⟩⟩

theorem witness_StepTakesFrontCommand : ({ State.reset with pending := [.retire] } : State).pending = [.retire] := by decide

theorem witness_HardwareReset : State.reset.hardwareReset.resetAsserted = true ∧ Instr.tabdataRead ≠ .hardwareReset ∧
    Instr.tabdataRead ≠ .resetRelease := by decide

theorem witness_ClearingAndBadCommand :
    ((0x7F, .clear) ∈ commandTable ∧ ({ idle with clearing := true } : State).Running) ∧
    ((∀ row ∈ commandTable, row.1 ≠ 0x04) ∧ idle.Running) := by decide

theorem witness_EnableAndRecover :
    (State.reset.Open ∧ State.reset.lineState = .off) ∧ (idle.Open ∧ idle.lineState ≠ .off ∧ idle.lineState ≠ .fault) ∧
    (∃ s : State, s.Open ∧ s.lineState = .fault) ∧ (∃ s : State, s.Running ∧ s.lineState = .recovering) :=
  ⟨by decide, by decide, ⟨{ idle with lineState := .fault }, by decide⟩, ⟨{ idle with lineState := .recovering }, by decide⟩⟩

theorem witness_LineDisable :
    (State.reset.Open ∧ State.reset.lineState = .off) ∧
    (idle.Open ∧ idle.lineState = .idle ∧ idle.exchange = none) ∧
    (let s := running { at5 .negotiating with negotiation := some negotiation5, lineState := .fault }
     s.Open ∧ s.exchange = none ∧ s.withRunLost.censusState = .idle ∧ s.withNegotiationAbandoned.fifo = [4]) ∧
    (∀ x ∈ [dispatching, field, claim, exchange .census (allCall .dismiss) .noAnswer .command,
        exchange .negotiate (frameTo5 .page) (.page 0) .reply],
      let s := on x (running { at5 .negotiating with negotiation := some negotiation5 })
      s.Open ∧ s.lineState = .busy ∧ s.exchange = some x ∧ x.discard = false ∧ x.source ≠ .clearDismiss ∧
        (x.source = .negotiate → x.frame.address = some negotiation5.address) ∧
        (x.phase = .command ∨ x.phase = .reply ∨ x.phase = .field)) ∧
    (∀ source ∈ [Source.sweep, .release, .census, .negotiate, .dispatch], ∀ phase ∈ [Phase.retryGap, .lineCheck],
      let s := on (between source phase) { at5 .active with queue := [request .onLine] }
      s.Open ∧ s.lineState = .busy ∧ s.exchange = some (between source phase) ∧ (between source phase).discard = false ∧
        s.negotiation = none ∧ s.queue.find? Request.isOnLine = some (request .onLine) ∧
        (request .onLine).abortRequested = false ∧ (s.entry 4).state ≠ .releasing) ∧
    (let s := on (between .dispatch .retryGap) { at5 .releasing with queue := [request .onLine] }
     s.Open ∧ s.queue.find? Request.isOnLine = some (request .onLine) ∧ (s.entry 4).state = .releasing ∧
      s.negotiation = none) := by decide

theorem witness_LineFaultsAndInterruptedRequests :
    (∀ phase ∈ [Phase.command, .reply], ∀ aborted : Bool, ∀ line ∈ [LineState.busy, .draining],
      ∀ state ∈ [EntryState.active, .releasing],
      let x := interrupted { dispatching with phase := phase }
      let r := { request .onLine with abortRequested := aborted }
      let s := { on x (at5 state) with lineState := line, queue := [r] }
      s.Open ∧ s.exchange = some x ∧ x.source = .dispatch ∧ x.interruptTaken = true ∧ x.discard = false ∧
        s.queue.find? Request.isOnLine = some r ∧ x.shape.expectsAnswer = true ∧ r.address = some 4 ∧
        (s.entry 4).state = state) ∧
    (∀ source ∈ [Source.release, .census, .negotiate, .sweep, .dispatch],
      ∀ phase ∈ [Phase.lineCheck, .command, .reply, .response, .retryGap, .field], ∀ line ∈ [LineState.busy, .draining],
      let x := between source phase
      let s := { on x (running { at5 .negotiating with negotiation := some negotiation5 }) with
        lineState := line, queue := [request .onLine] }
      s.Open ∧ s.exchange = some x ∧ x.discard = false ∧ x.source ≠ .clearDismiss ∧
        s.queue.find? Request.isOnLine = some (request .onLine)) := by decide

theorem witness_CensusStartChecksAndRun :
    (State.reset.Open ∧ State.reset.lineState = .off) ∧
    (∃ s : State, s.Open ∧ s.lineState = .fault) ∧
    (let s := running idle; s.Open ∧ s.lineState = .idle ∧ s.censusState ≠ .idle) ∧
    (let s := arg0 1 (at5 .active)
     s.Open ∧ s.censusState = .idle ∧ s.args[0].getLsbD 0 = true ∧ (s.entry 4).state ≠ .free) ∧
    (let s := arg0 1 idle
     s.Open ∧ s.censusState = .idle ∧ s.round = none ∧ ∀ a : Addr, (s.entry a).state = .free) :=
  ⟨by decide, ⟨{ idle with lineState := .fault }, by decide⟩, by decide, by decide, by decide⟩

theorem witness_CensusStopByRun :
    (idle.Open ∧ idle.censusState = .idle) ∧ (∃ s : State, s.Open ∧ s.censusState = .stopping) ∧
    (let s := { running idle with round := some .field }; s.Open ∧ s.censusState = .running ∧ s.round = some .field) ∧
    ((running idle).Open ∧ (running idle).censusState = .running ∧ (running idle).round = none) :=
  ⟨by decide, ⟨{ idle with censusState := .stopping }, by decide⟩, by decide, by decide⟩

set_option maxRecDepth 20000 in
theorem witness_RoundEndsWithoutClaim :
    (∀ census ∈ [CensusState.running, .stopping], ∀ failures ∈ [0, 2],
      let s := on field { idle with censusState := census, round := some .field, failures := failures }
      s.Open ∧ s.exchange = some field ∧ field.source = .census ∧ field.discard = false ∧ field.shape = .field ∧
        field.phase = .field ∧ field.interruptTaken = false ∧ s.censusState ≠ .idle) ∧
    (unitA ≠ 0xFFFFFFFFFF ∧ (0x00 : Byte) ≠ checkByte (unitBytes unitA)) ∧
    (∀ x ∈ [exchange .census (allCall .dismiss) .noAnswer .command, exchange .census (allCall .census) .field .command,
        { claim with phase := .command }],
      { x with used := 3 }.allowed ≤ 3 ∧ x.source = .census ∧ x.phase = .command ∧
      (on (interrupted x) (running idle)).exchange = some (interrupted x)) ∧
    (claim.shape = .claim ∧ claim.phase = .reply ∧
      judgeResponse .claim claim.sentToggle ((Answer.ack []).wire true) .recessive = .error .sequence) ∧
    (let s := { on (interrupted field) (running idle) with lineState := .draining }
     s.Open ∧ s.exchange = some (interrupted field) ∧ (interrupted field).interruptTaken = true) := by
  refine ⟨by decide, by decide, by decide, by decide, by decide⟩

theorem witness_WinningUnitIsClaimed :
    (let s := on field (at5 .active)
     s.Carries field ∧ field.shape = .field ∧ unitA ≠ 0xFFFFFFFFFF ∧ (s.entry 4).state = .active ∧
      (s.entry 4).unit = unitA ∧ ∀ b : Addr, b < 4 → (s.entry b).state = .free) ∧
    (let s := on field (at5 .active)
     s.Carries field ∧ (1 : UnitNumber) ≠ 0xFFFFFFFFFF ∧ (∀ b : Addr, (s.entry b).state ≠ .free → (s.entry b).unit ≠ 1) ∧
      (∀ i : Fin 8, s.bindings[i.val] = none) ∧ (s.entry 0).state = .free ∧ s.store 0 = Store.empty ∧
      ∀ b : Addr, ¬b < 0) ∧
    (let s := on field (boundAt5 idle)
     s.Carries field ∧ s.bindings[(0 : Fin 8).val] = some { address := 4, unit := unitA } ∧ (∀ j : Fin 8, ¬j < 0) ∧
      ∀ b : Addr, (s.entry b).state = .free) ∧
    (let s := on field (at5 .releasing)
     s.Carries field ∧ (s.entry 4).state = .releasing ∧ (s.entry 4).unit = unitA ∧ s.occupancy < 16 ∧ s.waiting = 0) ∧
    (let s := on field (running { idle with roster := .replicate 24 (entryIn .active) })
     s.Carries field ∧ (∀ b : Addr, (s.entry b).state ≠ .free ∧ (s.entry b).unit ≠ 1) ∧
      (∀ i : Fin 8, s.bindings[i.val] = none) ∧ s.censusState = .running ∧ s.occupancy < 16 ∧ s.waiting = 0) :=
  ⟨by decide, by decide, by decide, by decide, by decide⟩

theorem witness_AcceptedClaimCreatesEntry :
    ∀ census ∈ [CensusState.running, .stopping], ∀ line ∈ [LineState.busy, .draining],
      let s := { on claim { idle with censusState := census, round := some (.claim unitA 4 false) } with lineState := line }
      s.Open ∧ s.exchange = some claim ∧ claim.discard = false ∧ claim.source = .census ∧ claim.shape = .claim ∧
        claim.frame.kind = .claim ∧ claim.sentToggle = false ∧ claim.phase = .reply ∧ 4 ∉ s.fifo := by decide

theorem witness_RejoinRestartsTheEntry :
    (let s := on claim { running (at5 .active) with round := some (.claim unitA 4 true), queue := [request .held] }
     s.Open ∧ s.exchange = some claim ∧ s.round = some (.claim unitA 4 true) ∧ (s.entry 4).state ≠ .releasing ∧
      (s.queue.map Request.ticket).Nodup ∧ (s.withVerdicts 4 .nodeRestarted).occupancy < 16 ∧
      (s.withVerdicts 4 .nodeRestarted).waiting = 0) ∧
    (let full : Store := {
       status := some (eventAt5 .back), condition := some (eventAt5 (.condition .failed))
       attention := some (eventAt5 (.attention 9)) }
     let s := on claim { running (at5 .active) with
       round := some (.claim unitA 4 true), ring := fullRing, stores := idle.stores.set 4 full }
     s.Open ∧ s.exchange = some claim ∧ s.waiting = 3 ∧ 16 ≤ s.occupancy ∧
      ({ s with stores := idle.stores.set 4 { full with condition := none, attention := none } } : State).waiting = 1) ∧
    (let s := on claim { running (at5 .active) with round := some (.claim unitA 4 true), ring := fullRing }
     s.Open ∧ s.exchange = some claim ∧ s.waiting = 0 ∧ 16 ≤ s.occupancy) ∧
    (let s := { on claim { running (at5 .releasing) with round := some (.claim unitA 4 true) } with lineState := .draining }
     s.Open ∧ s.exchange = some claim ∧ (s.entry 4).state = .releasing) := by decide

theorem witness_AutoCensusTimerAndExpiry :
    let s := { idle with autoTimer := some 1 }
    s.Open ∧ s.lineState = .idle ∧ s.censusState = .idle ∧ s.autoTimer = some 1 ∧ s.round = none := by decide

/-- The staged READ of the tests, with one byte of its row set. -/
def stagedWith (k : Fin 21) (b : Byte) (s : State) : State := { s with staging := (staged s).staging.set k.val b }

theorem witness_SubmitRefusals :
    (∃ s : State, s.Open ∧ s.lineState = .fault) ∧
    (let s := { staged idle with queue := List.replicate 16 (request .unstarted) }; s.Open ∧ 16 ≤ s.queue.length) ∧
    (let s := stagedWith 0 3 idle; s.Open ∧ s.queue.length < 16 ∧ s.staging[0] ≠ 1 ∧ s.staging[0] ≠ 2) ∧
    (24 < (stagedWith 1 25 idle).staging[1].toNat ∧ (stagedWith 1 0 idle).staging[1] = 0 ∧
      16 < (stagedWith 3 17 idle).staging[3].toNat) ∧
    (let s := staged (at5 .lost); s.staging[1].toNat = (4 : Addr).number ∧ (s.entry 4).state = .lost) ∧
    (let s := stagedWith 3 9 (at5 .active)
     (s.entry 4).terms = (entryIn .active).terms ∧ LengthClass.bytes8.bytes < s.staging[3].toNat) ∧
    (let s := staged (entryAt5 { entryIn .active with objects := some { lowest := 4, highest := 9 } })
     s.staging[3].toNat ≤ LengthClass.bytes8.bytes ∧ s.staging[2] < 4) :=
  ⟨⟨{ idle with lineState := .fault }, by decide⟩, by decide, by decide, by decide, by decide, by decide, by decide⟩

theorem witness_SubmitAppendsWithTicket :
    let s := staged (at5 .active)
    (s.Open ∧ s.lineState ≠ .fault ∧ s.lineState ≠ .recovering ∧ s.queue.length < 16 ∧ s.ring.length ≤ 16 ∧
      s.staging[0] = RequestKind.read.code ∧ s.staging[1].toNat ≤ 24 ∧ s.staging[3].toNat ≤ 16 ∧ s.staging[1] ≠ 0) ∧
    ∀ a : Addr, s.staging[1].toNat = a.number → (s.entry a).state = .active ∧
      (s.entry a).terms = (entryIn .active).terms ∧ (s.entry a).objects = none := by decide

theorem witness_AbortByPhase :
    (idle.Open ∧ idle.queue.find? (Request.hasTicket idle.args[0]) = none) ∧
    (let r := { request .unstarted with verdict := some .aborted }
     (arg0 7 { idle with queue := [r] }).queue.find? (Request.hasTicket 7) = some r ∧ r.verdict ≠ none) ∧
    (let s := arg0 7 { idle with queue := [request .held] }
     s.Open ∧ s.queue.find? (Request.hasTicket s.args[0]) = some (request .held)) ∧
    (let s := arg0 7 { idle with queue := [request .unstarted] }
     s.queue.find? (Request.hasTicket s.args[0]) = some (request .unstarted) ∧ s.occupancy < 16 ∧ s.waiting = 0) ∧
    (let s := arg0 7 { idle with queue := [request .unstarted], ring := fullRing, censusSlot := some (eventAt5 .lost) }
     s.queue.find? (Request.hasTicket s.args[0]) = some (request .unstarted) ∧ s.waiting ≠ 0) ∧
    (let s := arg0 7 { idle with queue := [request .unstarted], ring := fullRing }
     s.queue.find? (Request.hasTicket s.args[0]) = some (request .unstarted) ∧ 16 ≤ s.occupancy ∧ s.waiting = 0) ∧
    (let r := { request .onLine with abortRequested := true }
     (arg0 7 { idle with queue := [r] }).queue.find? (Request.hasTicket 7) = some r) ∧
    (let s := on dispatching (arg0 7 { at5 .active with queue := [request .onLine] })
     s.Open ∧ s.queue.find? (Request.hasTicket s.args[0]) = some (request .onLine) ∧ s.exchange = some dispatching ∧
      dispatching.phase = .reply) ∧
    (∀ phase ∈ [Phase.retryGap, .lineCheck],
      let x := between .dispatch phase
      let s := on x (arg0 7 { at5 .active with queue := [request .onLine] })
      s.Open ∧ s.lineState = .busy ∧ s.exchange = some x ∧ x.discard = false ∧
        s.queue.find? (Request.hasTicket s.args[0]) = some (request .onLine) ∧
        s.queue.find? Request.isOnLine = some (request .onLine)) := by decide

/-- A queue whose head is held back by its entry's hold-off, and a ready request for line address 1 behind it. -/
def queued : State :=
  { entryAt5 { entryIn .active with holdOff := some 3 } with
    roster := (idle.roster.set 4 { entryIn .active with holdOff := some 3 }).set 0 (entryIn .active)
    queue := [request .held, { request .unstarted with ticket := 8, address := some 0 }] }

theorem test_oldest_ready_request : (after (.lineGrant .recessive) queued).map
    (fun t => t.queue.map fun r => (r.phase, r.attempts)) = some [(.held, 1), (.onLine, 2)] := by decide

theorem witness_GrantStartsTheRequest :
    (let s := { at5 .active with queue := [request .held] }
     s.Granting ∧ s.releaseReady = false ∧ s.censusReady = false ∧ s.negotiateReady = false ∧ s.sweepReady = false ∧
      s.queue = [] ++ request .held :: [] ∧ (s.entry 4).state = .active ∧ (s.entry 4).holdOff = none ∧
      (request .held).address = some 4 ∧ (request .held).verdict = none) ∧
    (queued.Granting ∧ queued.releaseReady = false ∧ queued.censusReady = false ∧ queued.negotiateReady = false ∧
      queued.sweepReady = false ∧ (∀ q ∈ queued.queue, q.phase ≠ .onLine) ∧ (queued.entry 4).holdOff = some 3 ∧
      (queued.entry 0).state = .active ∧ (queued.entry 0).holdOff = none ∧ queued.occupancy < 16) ∧
    (let r := { request .unstarted with address := none, kind := .write }
     let s := { idle with queue := [r], passOver := 8 }
     s.Granting ∧ s.releaseReady = false ∧ s.censusReady = false ∧ 8 ≤ s.passOver ∧ s.queue = [] ++ r :: [] ∧
      r.verdict = none ∧ s.occupancy < 16) := by decide

theorem witness_AnswerEndsTheRequest :
    (∀ x ∈ [dispatching, interrupted dispatching, { dispatching with phase := .command }, writing false, writing true,
        interrupted (writing true), { writing true with used := 3 }],
      ∀ line ∈ [LineState.busy, .draining], ∀ aborted : Bool, ∀ state ∈ [EntryState.active, .releasing],
      let r := { request .onLine with abortRequested := aborted }
      let s := { on x { at5 state with queue := [r] } with lineState := line }
      s.Open ∧ s.exchange = some x ∧ x.discard = false ∧ x.source = .dispatch ∧ x.frame.address = some 4 ∧
        s.queue.find? Request.isOnLine = some r ∧ (s.entry 4).state = state ∧
        min 15 (r.waits + 1) < s.waitLimit.toNat) ∧
    (dispatching.shape = .read 4 ∧ ([1, 2, 3, 4] : List Byte).length ≤ 4 ∧ (5 : BitVec 4) ≠ 0) ∧
    ((writing true).shape = .write true ∧ (0 : Byte) ≠ checkByte (writing true).frame.payload ∧
      (writing true).used < (writing true).allowed) ∧
    (∀ waits ∈ [7, 15],
      let r := { request .onLine with waits := waits }
      let s := on dispatching { at5 .active with queue := [r] }
      s.queue.find? Request.isOnLine = some r ∧ s.waitLimit.toNat ≤ min 15 (r.waits + 1)) ∧
    (let x := { dispatching with used := 3 }
     let s := on x { at5 .active with queue := [request .onLine] }
     x.interruptTaken = false ∧ x.allowed ≤ x.used ∧ (s.entry 4).state = .active ∧
      min 15 ((s.entry 4).misses + 1) < s.missLimit.toNat) ∧
    (let s := on { dispatching with used := 3 } (entryAt5 { entryIn .active with misses := 2 })
     let t := { s with queue := [request .onLine, { request .held with ticket := 8 }] }
     s.missLimit.toNat ≤ min 15 ((s.entry 4).misses + 1) ∧ (t.queue.map Request.ticket).Nodup ∧
      (t.withVerdicts 4 .nodeLost).occupancy < 16 ∧ (t.withVerdicts 4 .nodeLost).waiting = 0) := by decide

set_option maxRecDepth 20000 in
/-- An exhausted exchange whose last failure is sequence ends OUT_OF_STEP, and at the miss limit the node is LOST (R45,
R108, R127). -/
theorem test_out_of_step_loses : (after (.responseFrame ((Answer.ack []).wire true) .recessive)
    (on { dispatching with used := 3 } { entryAt5 { entryIn .active with misses := 2 } with
      queue := [request .onLine] })).map
    (fun t => ((t.entry 4).state, t.ring.length, t.queue.length)) = some (.lost, 2, 0) := by decide

set_option maxRecDepth 20000 in
/-- A WAIT to a request of an entry that has become RELEASING posts RELEASED (R17). -/
theorem test_wait_releasing : (after (.responseFrame (Answer.wait.wire false) .recessive)
    (on dispatching { at5 .releasing with queue := [request .onLine] })).map
    (fun t => (t.ring, (t.entry 4).holdOff)) = some ([.request {
      address := some 4, ticket := 7, result := .released, reason := 0, attempts := 1, abortRequested := false, waits := 1
      payload := [] }], some 4) := by decide

set_option maxRecDepth 20000 in
theorem witness_sequence_failure :
    judgeResponse (.read 4) dispatching.sentToggle ((Answer.ack []).wire true) .recessive = .error .sequence := by decide

theorem witness_CommandSentEndsOrAwaits :
    (∀ line ∈ [LineState.busy, .draining],
      let x := exchange .dispatch (allCall .write) .noAnswer .command
      let r := { request .onLine with address := none, kind := .write }
      let s := { on x { idle with queue := [r] } with lineState := line }
      s.Open ∧ s.exchange = some x ∧ x.discard = false ∧ s.queue.find? Request.isOnLine = some r ∧ r.address = none) ∧
    (let x := { exchange .dispatch (allCall .write) .noAnswer .command with used := 3 }
     x.interruptTaken = false ∧ x.allowed ≤ x.used) ∧
    (∀ line ∈ [LineState.busy, .draining], ∀ census ∈ [CensusState.running, .stopping],
      let x := exchange .census (allCall .dismiss) .noAnswer .command
      let s := { on x { idle with dismissOwed := true, round := some .dismiss } with
        lineState := line, censusState := census }
      s.Open ∧ s.exchange = some x ∧ x.discard = false ∧ x.shape = .noAnswer) ∧
    (let x := exchange .census (allCall .census) .field .command; (on x (running idle)).Carries x ∧ x.shape = .field) ∧
    (let x := exchange .sweep (frameTo5 .poll) .poll .command
     (on x (at5 .active)).Carries x ∧ x.shape.expectsAnswer = true) ∧
    (let x := exchange .clearDismiss (allCall .dismiss) .noAnswer .command
     let s := on x { idle with clearing := true }
     s.Running ∧ s.lineState = .busy ∧ s.exchange = some x) := by decide

/-- A state whose store of line address 5 is given. -/
def withStore (st : Store) : State := { at5 .active with ring := fullRing, stores := idle.stores.set 4 st }

theorem witness_RetirePostsInOrder :
    (idle.Open ∧ idle.ring = []) ∧
    (let s := { idle with ring := fullRing }; s.Open ∧ s.waiting = 0 ∧ s.ring.length = 16) ∧
    (let r := { request .unstarted with verdict := some .nodeLost }
     ({ idle with ring := fullRing, queue := [r] } : State).queue.find? Request.verdictWaits = some r) ∧
    (let s := { idle with ring := fullRing, censusSlot := some (eventAt5 .lost) }
     s.queue.find? Request.verdictWaits = none ∧ s.censusSlot = some (eventAt5 .lost)) ∧
    (let s := withStore { Store.empty with status := some (eventAt5 .lost) }
     s.censusSlot = none ∧ (∀ b : Addr, b < 4 → s.store b = Store.empty) ∧ (s.store 4).status = some (eventAt5 .lost)) ∧
    (let s := withStore { Store.empty with condition := some (eventAt5 (.condition .failed)) }
     (s.store 4).status = none ∧ (s.store 4).condition = some (eventAt5 (.condition .failed))) ∧
    (let s := withStore { Store.empty with attention := some (eventAt5 (.attention 9)) }
     (s.store 4).condition = none ∧ (s.store 4).attention = some (eventAt5 (.attention 9))) := by decide

theorem witness_EventPostsOrWaits :
    (idle.occupancy < 16 ∧ idle.waiting = 0) ∧
    (let s := { idle with ring := fullRing }; 16 ≤ s.occupancy ∧ (eventAt5 .lost).address = some 4) ∧
    ({ address := none, unit := 0, data := .censusEnd .line 0 } : EventRecord).address = none := by decide

theorem witness_ReleaseChecksAndEffects :
    (idle.Open ∧ idle.args[0] = 0) ∧ 24 < (arg0 25 idle).args[0].toNat ∧
    (let s := arg0 5 idle; s.args[0] = BitVec.ofNat 8 (4 : Addr).number ∧ (s.entry 4).state = .free) ∧
    (let s := arg0 24 { at5 .active with roster := idle.roster.set 23 (entryIn .lost) }
     s.Open ∧ s.args[0] = BitVec.ofNat 8 (23 : Addr).number ∧ s.fifo.Nodup ∧ (s.queue.map Request.ticket).Nodup ∧
      (s.entry 23).state ≠ .free ∧ (s.entry 23).state ≠ .releasing) ∧
    (let s := arg0 5 { at5 .active with ring := fullRing.drop 1, queue := [request .held, { request .unstarted with ticket := 8 }] }
     s.Open ∧ (s.queue.map Request.ticket).Nodup ∧ s.freeSlots = 0 ∧ (request .held).verdict = none ∧
      (request .unstarted).verdict = none) ∧
    (let s := arg0 5 { at5 .negotiating with negotiation := some negotiation5, commitPending := true }
     s.negotiation.map Negotiation.address = some 4 ∧ s.commitPending = true) := by decide

theorem witness_ReleaseExchangeFreesTheEntry :
    let x := { exchange .release (frameTo5 .release) .release .reply with used := 3 }
    (∀ y ∈ [x, interrupted x, { x with phase := .command }], ∀ line ∈ [LineState.busy, .draining],
      let s := { on y (at5 .releasing) with lineState := line }
      s.Open ∧ s.exchange = some y ∧ y.discard = false ∧ y.frame.address = some 4 ∧
        (y.phase = .command ∨ y.phase = .reply) ∧ s.occupancy < 16 ∧ s.waiting = 0) ∧
    (1 : BitVec 4) ≠ 0 ∧ x.interruptTaken = false ∧ x.allowed ≤ x.used := by decide

theorem witness_RenegotiateReturnsToPending :
    (let s := arg0 25 idle; s.Open ∧ 24 < s.args[0].toNat) ∧
    (let s := arg0 5 (at5 .lost); s.args[0] = BitVec.ofNat 8 (4 : Addr).number ∧ (s.entry 4).state = .lost) ∧
    (let s := arg0 5 (at5 .active); s.Open ∧ s.args[0] = BitVec.ofNat 8 (4 : Addr).number ∧ (s.entry 4).state = .active) := by
  decide

theorem witness_BindChecksAndWrites :
    (let s := arg0 25 (bindArgs idle); s.Open ∧ 24 < s.args[0].toNat) ∧
    unitOfBytes 0xFF 0xFF 0xFF 0xFF 0xFF = 0xFFFFFFFFFF ∧
    (let s := boundAt5 (bindArgs idle)
     s.args[0] = BitVec.ofNat 8 (4 : Addr).number ∧ unitOfBytes s.args[1] s.args[2] s.args[3] s.args[4] s.args[5] = unitA ∧
      s.bindings[(0 : Fin 8).val] = some { address := 4, unit := unitA }) ∧
    (let s := { boundAt5 (bindArgs idle) with args := #v[6, 1, 2, 3, 4, 5] }
     s.bindings[(0 : Fin 8).val] = some { address := 4, unit := unitA } ∧
      s.args[0] = BitVec.ofNat 8 (5 : Addr).number) ∧
    (let s := { bindArgs (at5 .active) with args := #v[6, 1, 2, 3, 4, 5] }
     (s.entry 4).state ≠ .free ∧ (s.entry 4).unit = unitA ∧ s.args[0] = BitVec.ofNat 8 (5 : Addr).number) ∧
    (let s := { bindArgs idle with round := some (.claim unitA 0 false) }
     s.round = some (.claim unitA 0 false) ∧ s.args[0] = BitVec.ofNat 8 (4 : Addr).number) ∧
    (let s := bindArgs { idle with stores := idle.stores.set 4 { Store.empty with
        status := some { address := some 4, unit := 9, data := .lost } } }
     (s.store 4).status = some { address := some 4, unit := 9, data := .lost } ∧ (9 : UnitNumber) ≠ unitA) ∧
    (let s := bindArgs { idle with bindings := .replicate 8 (some { address := 0, unit := 1 }) }
     ∀ i : Fin 8, s.bindings[i.val] ≠ none) ∧
    (let s := bindArgs idle
     s.Open ∧ s.bindings[(0 : Fin 8).val] = none ∧ ∀ j : Fin 8, ¬j < 0) := by decide

theorem witness_UnbindFreesTheRow :
    (let s := { idle with clearing := true }; s.Running ∧ s.clearing = true) ∧
    (idle.Open ∧ idle.args[0] = 0) ∧
    (let s := arg0 5 idle; s.args[0] = BitVec.ofNat 8 (4 : Addr).number ∧ ∀ i : Fin 8, s.bindings[i.val] = none) ∧
    ((boundAt5 (arg0 5 idle)).BindingRowsLaw ∧
      (boundAt5 (arg0 5 idle)).bindings[(0 : Fin 8).val] = some { address := 4, unit := unitA }) := by
  refine ⟨by decide, by decide, by decide, ?_, by decide⟩
  intro i j b c hb hc _
  revert hb hc
  fin_cases i <;> fin_cases j <;> simp [boundAt5, arg0, idle, State.reset]

theorem witness_HoldOffsEnd :
    idle.Running ∧ (State.reset.pending = [] ∧ State.reset.Running ∧ State.reset.lineState = .off) := by decide

theorem witness_CommitOfferChecks :
    (let s := { idle with clearing := true }; s.Running ∧ s.clearing = true) ∧
    (let s := { idle with commitPending := true }; s.Open ∧ s.commitPending = true) ∧
    (idle.Open ∧ idle.commitPending = false ∧ idle.shadow.count = 1 ∧ pageKind (idle.shadow.word 0) = .base ∧
      pageOffersPoll (idle.shadow.word 0) .ticks1 = true) ∧
    ({ idle with shadow := .replicate 25 0 } : State).shadow.count = 0 := by decide

theorem witness_CommitOfferByNegotiation :
    (idle.Open ∧ idle.commitPending = false ∧ idle.shadow.valid = true ∧ idle.negotiation = none) ∧
    (let s := { at5 .negotiating with negotiation := some negotiation5 }
     s.Open ∧ s.commitPending = false ∧ s.shadow.valid = true ∧ s.negotiation ≠ none) := by decide

theorem witness_PageWordsAndResolvedTerms :
    resolveTerms 0x0FF0 0x0FC0 =
      some { payloadLimit := .bytes16, pollClass := .ticks1, attention := false, confirm := false } ∧
    interpretPages { deviceClass := none, objects := none } [0x0FC0, 0x2048, 0x4123, 0x2090, 0x4007, 0x4FFF] =
      { deviceClass := some 0x123, objects := some { lowest := 7, highest := 255 } } ∧
    interpretPages { deviceClass := none, objects := none } [0x0FC0, 0x2048] = { deviceClass := none, objects := none } := by
  decide

theorem witness_GrantStartsNegotiation :
    (let s := { at5 .pending with fifo := [4] }
     s.Granting ∧ s.releaseReady = false ∧ s.censusReady = false ∧ s.dispatchReady = false ∧ s.negotiation = none ∧
      s.commitPending = false ∧ s.fifo = [4] ∧ (s.entry 4).holdOff = none) ∧
    (let s := { at5 .negotiating with negotiation := some { negotiation5 with next := 15 } }
     s.Granting ∧ s.negotiation = some { negotiation5 with next := 15 } ∧ (s.entry 4).holdOff = none ∧
      ¬(15 < s.active.count)) := by decide

/-- A PAGE of an index awaiting its answer, with the page list its entry holds. -/
def paging (n : Negotiation) (pages : List PageWord) : State :=
  on (exchange .negotiate (frameTo5 .page) (.page n.next) .reply)
    { entryAt5 { entryIn .negotiating with pages := pages } with negotiation := some n }

/-- An offer of a BASE page and a NULL page whose binding flag is set, and of a PROFILE that binds. -/
def bindingOffer : Offer :=
  #v[3, 0x0F, 0xF0, 0, 0x20, 0x00, 1, 0x20, 0x48, 1, 0, 0, 0, 0, 0, 0, 0, 0, 0, 0, 0, 0, 0, 0, 0]

/-- A PAGE at index 3 that ends the object range 7 to 15, with a request too long for four bytes and one out of range. -/
def resolving : State :=
  { paging { negotiation5 with next := 3 } [0x00C0, 0x2090, 0x4007] with
    queue := [{ request .held with ticket := 8, length := 5 }, request .unstarted] }

/-- The results of the request records in a ring. -/
def resultsIn (ring : List Record) : List Completion :=
  ring.filterMap fun r => match r with
    | .request q => some q.result
    | .event _ => none

set_option maxRecDepth 20000 in
theorem test_resolution_checks_requests :
    (after (.responseFrame ((Answer.ack (wordBytes 0x400F ++ [3])).wire false) .recessive) resolving).map
      (fun t => ((t.entry 4).state, t.queue.length, resultsIn t.ring)) = some (.active, 0, [.tooLong, .outOfRange]) := by
  decide

theorem witness_NodePageIsJudged :
    (∀ n ∈ [negotiation5, { negotiation5 with next := 15, restarts := 2, waits := 7 }],
      let x := exchange .negotiate (frameTo5 .page) (.page n.next) .reply
      let s := { paging n [] with commitPending := true }
      s.Carries x ∧ n.next < 16 ∧ x.frame.kind = .page ∧ x.frame.address = some 4 ∧ s.negotiation = some n ∧
        n.address = 4 ∧ s.commitPending = true ∧ n.restarts ≤ 2 ∧ (s.queue.map Request.ticket).Nodup ∧
        s.occupancy < 16 ∧ s.waiting = 0) ∧
    (pageKind 0x6000 = .invalid ∧ pageKind 0x2000 ≠ .base ∧ pageKind 0x0FCF = .base ∧
      (0x0FCF : PageWord) &&& 0xFFF0 = 0x0FC0) ∧
    (bindingOffer.binding 1 = false ∧ bindingOffer.binding 2 = true ∧ pageAgree 0x2000 = false) ∧
    (let s := paging { negotiation5 with next := 8 } (.replicate 8 0x4000)
     pageKind 0x4001 = .plain ∧ 8 ≤ (s.entry 4).pages.length ∧ s.active.binding 7 = false) ∧
    (pageKind 0x2000 = .message ∧ pageCode 0x2000 = 0 ∧ pageMore 0x2000 = false ∧ pageMore 0xA000 = true) ∧
    (let s := paging negotiation5 []
     pageMore 0x0FC0 = false ∧ s.active.count ≤ 1 ∧ s.active.binding 0 = false ∧
      (resolveTerms 0x0FC0 (s.active.word 0)).isSome = true ∧ resolveTerms 0x0C00 (s.active.word 0) = none ∧
      negotiation5.waits + 1 < s.waitLimit.toNat ∧ s.waitLimit.toNat ≤ 7 + 1) ∧
    ((resolving.queue.map Request.ticket).Nodup ∧ resolving.occupancy < 16 ∧ resolving.waiting = 0 ∧
      ∀ r ∈ resolving.queue, r.address = some 4) ∧
    (let x := { exchange .negotiate (frameTo5 .page) (.page 0) .reply with used := 3 }
     let s : State := on x { paging negotiation5 [] with queue := [request .held] }
     s.Carries x ∧ x.allowed ≤ x.used ∧ (s.withVerdicts 4 .nodeLost).occupancy < 16 ∧
      (s.withVerdicts 4 .nodeLost).waiting = 0) ∧
    (let x := interrupted (exchange .negotiate (frameTo5 .page) (.page 0) .reply)
     let s := { on x (paging negotiation5 []) with lineState := .draining, commitPending := true }
     s.Open ∧ s.exchange = some x ∧ x.interruptTaken = true ∧ x.discard = false ∧ x.frame.address = some 4 ∧
      s.negotiation.map Negotiation.address = some 4 ∧ s.commitPending = true ∧
      unusedAreZero x.shape (wordBytes 0x0FC0) = true) ∧
    (∀ line ∈ [LineState.busy, .draining],
      let x := { exchange .negotiate (frameTo5 .page) (.page 0) .reply with used := 3 }
      let s := { on x (at5 .releasing) with lineState := line }
      s.Open ∧ s.exchange = some x ∧ x.discard = false ∧ s.negotiation.map Negotiation.address ≠ some 4 ∧
        x.allowed ≤ x.used) ∧
    (1 : BitVec 4) ≠ 0 :=
  ⟨by decide, by decide, by decide, by decide, by decide, by decide, by decide, by decide, by decide, by decide,
    by decide⟩

theorem witness_SweepTickMarksDue : idle.Running ∧ idle.lineState = .idle := by decide

theorem witness_GrantPollsTheNextDueEntry :
    let s := entryAt5 { entryIn .active with due := true }
    (s.Granting ∧ s.releaseReady = false ∧ s.censusReady = false ∧ s.negotiateReady = false ∧ s.dispatchReady = false ∧
      (s.entry 4).due = true ∧ (s.entry 4).holdOff = none) ∧
    ∀ b : Addr, (s.entry b).due = true → b = 4 := by decide

set_option maxRecDepth 20000 in
/-- With one slot free the BACK of a returning node posts, and its condition and attention events wait (R102, R104). -/
theorem test_attention_held : (after (.responseFrame ((Answer.ack [7, 0]).wire false) .recessive)
    (on (exchange .sweep (frameTo5 .poll) .poll .reply) { at5 .lost with ring := fullRing.drop 1 })).map
    (fun t => ((t.entry 4).attention, t.ring.length, (t.store 4).attention.isSome, t.cause)) = some (.held, 16, true, 0x81) := by
  decide

theorem witness_PollAnswerIsApplied :
    let x := exchange .sweep (frameTo5 .poll) .poll .reply
    (∀ e ∈ [entryIn .active, entryIn .lost, { entryIn .lost with terms := none }],
      let s := on x (entryAt5 e)
      s.Carries x ∧ x.frame.kind = .poll ∧ x.frame.address = some 4 ∧ (s.entry 4).state ≠ .releasing ∧ s.freeSlots = 16) ∧
    (let s := on x { at5 .lost with ring := fullRing.drop 1 }; s.Carries x ∧ s.freeSlots = 1) ∧
    (let s := on x { at5 .active with ring := fullRing }; s.Carries x ∧ s.freeSlots = 0) ∧
    (let s := { on (interrupted x) (at5 .active) with lineState := .draining }
     s.Open ∧ s.exchange = some (interrupted x) ∧ (interrupted x).discard = false ∧ (interrupted x).phase = .reply) ∧
    (∀ y ∈ [interrupted x, { x with used := 3 }, { x with used := 3, phase := .command }],
      ∀ line ∈ [LineState.busy, .draining],
      let s := { on y (at5 .releasing) with lineState := line }
      s.Open ∧ s.exchange = some y ∧ (s.entry 4).state = .releasing ∧ (y.interruptTaken = true ∨ y.allowed ≤ y.used)) ∧
    Condition.degraded ≠ .unknown := by decide

set_option maxRecDepth 20000 in
/-- A REFUSE to a poll brings the miss count to 1 (R105). -/
theorem test_refused_poll : (after (.responseFrame ((Answer.refuse 1).wire false) .recessive)
    (on (exchange .sweep (frameTo5 .poll) .poll .reply) (entryAt5 { entryIn .active with due := true, misses := 2 }))).map
    (fun t => ((t.entry 4).toggle, (t.entry 4).due, (t.entry 4).misses)) = some (true, false, 1) := by decide

theorem witness_FailedPollCountsMiss :
    let x := { exchange .sweep (frameTo5 .poll) .poll .reply with used := 3 }
    (let s := on x (at5 .active)
     s.Carries x ∧ x.allowed ≤ x.used ∧ (s.entry 4).state = .active ∧
      min 15 ((s.entry 4).misses + 1) < s.missLimit.toNat) ∧
    (let s := on x (entryAt5 { entryIn .pending with misses := 15 }); s.Carries x ∧ (s.entry 4).state = .pending) ∧
    (let s := { on x (entryAt5 { entryIn .active with misses := 2 }) with queue := [request .held] }
     s.missLimit.toNat ≤ min 15 ((s.entry 4).misses + 1) ∧ (s.queue.map Request.ticket).Nodup ∧
      (s.withVerdicts 4 .nodeLost).occupancy < 16 ∧ (s.withVerdicts 4 .nodeLost).waiting = 0) ∧
    (let s := { on x (at5 .active) with missLimit := 1 }; s.Carries x ∧ s.missLimit.toNat ≤ min 15 (0 + 1)) ∧
    (let s := on x (at5 .lost); s.Carries x ∧ (s.entry 4).state = .lost) ∧
    (let s := { on (interrupted x) (at5 .active) with lineState := .draining }
     s.Open ∧ s.exchange = some (interrupted x) ∧ (interrupted x).discard = false ∧ (interrupted x).frame.address = some 4 ∧
      (interrupted x).phase = .reply ∧ (s.entry 4).state ≠ .releasing) ∧
    (1 : BitVec 4) ≠ 0 := by decide

theorem witness_SweepIntervalWrite : idle.Running := by decide

theorem witness_MissLimitWrite :
    idle.Running ∧ State.reset.Running ∧ (after .clear State.reset).isSome = true := by decide

theorem witness_GrantFollowsBaseOrder :
    (let s := at5 .releasing; s.Granting ∧ s.passOver ≤ 8 ∧ s.releaseReady = true) ∧
    (let s := { running idle with yield := true }
     s.Granting ∧ s.releaseReady = false ∧ s.censusState = .running ∧ s.round = none ∧ s.negotiateReady = false ∧
      s.sweepReady = false ∧ s.dispatchReady = false) ∧
    (let s := { running (at5 .active) with queue := [request .held], passOver := 8, yield := true }
     s.Granting ∧ s.releaseReady = false ∧ s.yield = true ∧ s.dispatchReady = true ∧ s.passOver = 8) ∧
    (let s := { at5 .pending with fifo := [4] }; s.dispatchReady = false ∧ s.negotiateReady = true) ∧
    (let s := entryAt5 { entryIn .active with due := true }; s.negotiateReady = false ∧ s.sweepReady = true) ∧
    (let s := { at5 .active with queue := [request .held] }
     s.sweepReady = false ∧ s.dispatchReady = true ∧ s.passOver < 8) ∧
    (idle.Granting ∧ idle.dispatchReady = false ∧ idle.sweepReady = false) := by decide

/-- An attempt of a confirmed WRITE that failed on the confirm byte, its entry's toggle flipped: the frame keeps the toggle
of its first attempt, and the retry carries the entry's (R36, R41, R42). -/
theorem test_confirm_retry_toggle : (after (.retryGapEnd .recessive)
    (on { writing true with phase := .retryGap, lastFailure := some .confirm }
      (entryAt5 { entryIn .active with toggle := true }))).map
    (fun t => t.exchange.map fun x => (x.frame.toggle, x.sentToggle, x.sentFrame.toggle, x.used)) =
    some (some (false, true, true, 2)) := by decide

set_option maxRecDepth 20000 in
theorem witness_RetryGapAndLineCheck :
    (let x := exchange .sweep (frameTo5 .poll) .poll .command; (on x (at5 .active)).Carries x ∧ x.used < x.allowed) ∧
    (let x := exchange .sweep (frameTo5 .poll) .poll .reply
     (on x (at5 .active)).Carries x ∧ x.shape.expectsAnswer = true ∧
      judgeResponse x.shape x.sentToggle (Answer.wait.wire true) .recessive = .error .sequence) ∧
    (let x := exchange .clearDismiss (allCall .dismiss) .noAnswer .command
     let s := on x { idle with clearing := true }
     s.Running ∧ s.lineState = .busy ∧ s.exchange = some x ∧ x.interruptTaken = false ∧ x.used < x.allowed ∧
      x.frame.address = none ∧ x.frame.toggle = false) ∧
    (∀ x ∈ [exchange .sweep (frameTo5 .poll) .poll, exchange .dispatch (frameTo5 .write) (.write true),
        exchange .dispatch (allCall .write) .noAnswer, exchange .census (allCall .census) .field,
        fun phase => { exchange .census (allCall .claim) .claim phase with used := 0 },
        exchange .census (allCall .dismiss) .noAnswer], ∀ phase ∈ [Phase.retryGap, .lineCheck],
      (on (x phase) (at5 .active)).Carries (x phase) ∧ (x phase).phase = phase ∧
        (x phase).frame.addressed = (x phase).frame.address ∧
        ((x phase).frame.address = none → (x phase).frame.toggle = false)) := by
  refine ⟨by decide, by decide, by decide, ?_⟩
  intro x hx phase hp
  fin_cases hx <;> fin_cases hp <;> decide

theorem witness_GrantsToReleaseAndCensus :
    (let s := at5 .releasing
     s.Granting ∧ (s.entry 4).state = .releasing ∧ (s.entry 4).holdOff = none ∧
      ∀ b : Addr, b < 4 → (s.entry b).state ≠ .releasing) ∧
    (let s := running idle
     s.Granting ∧ s.releaseReady = false ∧ s.round = none ∧ s.yield = false ∧ s.dismissOwed = false) ∧
    (let s := { running idle with yield := true }; s.Granting ∧ s.yield = true ∧ s.otherReady = false) ∧
    (let s := { running idle with dismissOwed := true }; s.Granting ∧ s.releaseReady = false ∧ s.dismissOwed = true) := by
  decide

set_option maxRecDepth 20000 in
theorem witness_ClearAndItsDismiss :
    (idle.Open ∧ idle.lineState = .idle) ∧
    (let s := on dispatching (at5 .active); s.Open ∧ s.lineState = .busy ∧ s.exchange = some dispatching) ∧
    (∀ phase ∈ [Phase.retryGap, .lineCheck],
      let s := on (between .sweep phase) (at5 .active)
      s.Open ∧ s.exchange = some (between .sweep phase) ∧ (between .sweep phase).source ≠ .clearDismiss) ∧
    (State.reset.Open ∧ State.reset.lineState = .off) ∧
    (∀ line ∈ [LineState.busy, .draining],
      ∀ x ∈ [{ dispatching with discard := true }, { claim with discard := true }, { writing true with discard := true }],
        let s := { on (interrupted x) (at5 .active) with clearing := true, lineState := line }
        s.Running ∧ s.clearing = true ∧ s.yield = false ∧ s.exchange = some (interrupted x) ∧
          (interrupted x).source ≠ .clearDismiss ∧ (interrupted x).discard = true ∧ (interrupted x).phase = .reply ∧
          (interrupted x).shape.expectsAnswer = true ∧ (s.entry 4).state ≠ .releasing) ∧
    (dispatching.frame.addressed = some 4 ∧ dispatching.shape.acceptsAck [1, 2, 3, 4] = true ∧
      dispatching.shape.acceptsWaitRefuse = true ∧ claim.shape = .claim ∧ claim.frame.kind = .claim ∧
      (writing true).shape.acceptsAck [checkByte (writing true).frame.payload] = true ∧
      unusedAreZero (writing true).shape [checkByte (writing true).frame.payload] = true) ∧
    (let x := { interrupted (exchange .sweep (frameTo5 .poll) .poll .reply) with discard := true }
     let s := { on x (at5 .lost) with clearing := true }
     s.exchange = some x ∧ x.frame.kind = .poll ∧ x.shape.acceptsWaitRefuse = true ∧ (s.entry 4).state = .lost) ∧
    (∀ line ∈ [LineState.busy, .draining],
      ∀ x ∈ [field, { field with phase := .command }, exchange .census (allCall .dismiss) .noAnswer .command,
        exchange .dispatch (allCall .write) .noAnswer .command, { dispatching with phase := .command }],
        let y := { interrupted x with discard := true }
        let s := { on y (at5 .active) with clearing := true, lineState := line }
        s.Running ∧ s.clearing = true ∧ s.yield = false ∧ s.exchange = some y ∧ y.source ≠ .clearDismiss ∧
          y.discard = true ∧ y.interruptTaken = true) ∧
    (let x := { exchange .clearDismiss (allCall .dismiss) .noAnswer .command with used := 3 }
     let s := on x { idle with clearing := true }
     s.Running ∧ s.clearing = true ∧ s.yield = false ∧ s.lineState = .busy ∧ s.exchange = some x ∧
      x.source = .clearDismiss ∧ x.interruptTaken = false ∧ x.allowed ≤ x.used) ∧
    (let x := { interrupted (exchange .sweep (frameTo5 .poll) .poll .reply) with discard := true }
     let s := { on x (at5 .releasing) with clearing := true }
     s.exchange = some x ∧ x.frame.kind = .poll ∧ (s.entry 4).state = .releasing) ∧
    (∀ x ∈ [interrupted { dispatching with discard := true }, exchange .clearDismiss (allCall .dismiss) .noAnswer .lineCheck],
      let s := { on x (at5 .active) with clearing := true }
      s.Running ∧ s.clearing = true ∧ s.censusState = .idle ∧ s.lineState = .busy ∧ s.exchange = some x ∧
        (x.discard = true ∨ x.source = .clearDismiss)) ∧
    (let s := { idle with clearing := true }; s.Running ∧ s.clearing = true ∧ s.lineState = .idle) :=
  ⟨by decide, by decide, by decide, by decide, by decide, by decide, by decide, by decide, by decide, by decide,
    by decide, by decide⟩

theorem witness_PassOverKept : idle.Open ∧ idle.exchange = none := by decide

theorem witness_CaptureCopiesTheRow :
    idle.Running ∧
    (∀ select ∈ ([0, 1, 2, 3, 4, 5, 6, 7, 255] : List Byte), ∀ index ∈ ([0, 1, 8, 16, 24, 25] : List Byte),
      (Instr.tabselWrite select = .tabselWrite select ∧ index = ({ idle with tabidx := index } : State).tabidx)) ∧
    (at5 .active).ring = [] ∧ ({ idle with queue := [request .held] } : State).queue[0]? = some (request .held) := by decide

theorem witness_TableRowLayouts :
    (entryIn .active).misses ≤ 15 ∧ (entryIn .active).pages.length ≤ 8 ∧
    (let r : RequestRecord := {
       address := some 4, ticket := 7, result := .done, reason := 0, attempts := 15, abortRequested := true, waits := 2
       payload := .replicate 16 9 }
     r.attempts ≤ 15 ∧ r.payload.length ≤ 16 ∧ (Record.request r).row.length = 24) := by decide

theorem witness_TabdataReadAdvances :
    (let s := { idle with latchEnd := 32, latchPointer := 31 }; s.Running ∧ s.latchPointer < 32 ∧ s.latchPointer < s.latchEnd) ∧
    (let s := { idle with latchEnd := 32, latchPointer := 32 }; s.latchEnd ≤ s.latchPointer) := by decide

theorem witness_TabdataWriteByTable :
    (idle.Running ∧ idle.latchEnd ≤ idle.latchPointer) ∧
    (let s := { idle with tabsel := 5, latchEnd := 21, latchPointer := 20 }
     s.latchPointer < s.latchEnd ∧ s.latchPointer < 21 ∧ s.tabsel = 5 ∧ s.tabidx = 0) ∧
    (let s := { idle with tabsel := 3, latchEnd := 25, latchPointer := 24 }
     s.latchPointer < s.latchEnd ∧ s.latchPointer < 25 ∧ s.tabsel = 3 ∧ s.tabidx = 0 ∧ s.commitPending = false) ∧
    (let s := { idle with tabsel := 3, latchEnd := 25, commitPending := true }
     s.latchPointer < s.latchEnd ∧ s.tabsel = 3 ∧ s.commitPending = true) := by decide

theorem witness_RegisterWritesAndIrq :
    idle.Running ∧ ({ idle with cause := 0x80, enable := 0x80 } : State).irqAsserted = true := by decide

/-- A response of no payload, closed by its check byte. -/
def shortResponse (status : Byte) : List Byte := [status, 0x00, checkByte [status, 0x00]]

set_option maxRecDepth 20000 in
theorem witness_FrameFormats :
    ¬16 < (([0x01, 0x10] : List Byte).getD 1 0xFF).toNat ∧ 16 < (([0x01, 0x11] : List Byte).getD 1 0xFF).toNat ∧
    (∀ status ∈ ([0x01, 0x02, 0x07] : List Byte),
      (shortResponse status).getD 2 0xFF = checkByte ((List.range 2).map fun k => (shortResponse status).getD k 0xFF) ∧
      status.getLsbD 7 = false) ∧
    (∀ status ∈ ([0x01, 0x02, 0x07] : List Byte), ∃ answer, judgeResponse .release false (shortResponse status) .recessive =
      .ok answer) ∧
    judgeResponse .release false (shortResponse 0x01) .dominant = .error .malformed ∧
    judgeResponse .release false (shortResponse 0x03) .recessive = .error .malformed ∧
    judgeResponse .release true (shortResponse 0x01) .recessive = .error .sequence := by
  refine ⟨by decide, by decide, by decide, ?_, by decide, by decide, by decide⟩
  intro status h
  fin_cases h
  · exact ⟨.ack [], by decide⟩
  · exact ⟨.wait, by decide⟩
  · exact ⟨.refuse 1, by decide⟩

theorem witness_NodeAnswersAreAccepted :
    (Answer.ack [0, 2]).suits .poll = true ∧ Answer.wait.suits .release = true ∧
    (Answer.refuse 15).suits (.read 0) = true ∧ (Answer.ack [0x0F, 0xC0, 0]).suits (.page 0) = true ∧
    unusedAreZero (.page 0) [0x0F, 0xC0, 0] = true ∧ unusedAreZero (.page 0) [0x0F, 0xC1, 0] = false ∧
    unusedAreZero .poll [0, 2] = true := by decide

theorem witness_LowestUnitWinsTheField :
    (0x93 : UnitNumber) ∈ ([0xA7, 0x93] : List UnitNumber) ∧
    ∀ v ∈ ([0xA7, 0x93] : List UnitNumber), (0x93 : UnitNumber) ≤ v := by
  constructor <;> simp

theorem witness_laws :
    idle.LineLaw ∧ idle.OccupancyLaw ∧ idle.QueueLaw ∧ idle.TicketLaw ∧ idle.ActiveLaw ∧ idle.FifoLaw ∧
      idle.ConfigLaw ∧ idle.CommitLaw := by decide

/-- A running census with one ACTIVE entry, due: every law holds, and a step follows. -/
def lawful : State := { running (entryAt5 { entryIn .active with due := true }) with pending := [.lineGrant .recessive] }

theorem witness_lawful : lawful.Laws ∧ ∃ t, step lawful = .next t := by
  refine ⟨⟨⟨by decide, ?_, ⟨by decide, ?_⟩, ⟨by decide, ?_⟩, ?_⟩, ⟨by decide, by decide, by decide, by decide, by decide⟩,
    ⟨by decide, by decide, by decide, by decide, ?_⟩, ?_, ?_, ⟨by decide, by decide, by decide, by decide, by decide,
    by decide, ?_⟩, by decide, by decide⟩, _, rfl⟩
  · intro x h
    exact absurd h (by simp [lawful, running, entryAt5, idle, State.reset])
  · intro x h
    exact absurd h (by simp [lawful, running, entryAt5, idle, State.reset])
  · intro _ r h
    exact absurd h (by simp [lawful, running, entryAt5, idle, State.reset])
  · intro u a rejoin h
    exact absurd h (by simp [lawful, running, entryAt5, idle, State.reset])
  · have h : ∀ a : Addr, lawful.store a = Store.empty := by decide
    intro a
    rw [h a]
    simp [Store.empty]
  · intro i j b c h
    exact absurd h (by simp [lawful, running, entryAt5, idle, State.reset])
  · intro i b h
    exact absurd h (by simp [lawful, running, entryAt5, idle, State.reset])
  · intro r h
    exact absurd h (by simp [lawful, running, entryAt5, idle, State.reset])

end Sys2Proof.Tests
end

section
/-! PROOF. The laws of the roster, the FIFO and the binding table, as rules for the named operations: what replacing an
entry, moving an address in the FIFO and letting an event wait keep of them. -/

namespace Sys2Proof.Machine

/-! ## The FIFO and the states of the entries -/

/-- The FIFO and the negotiation in progress fit the states of the entries (R5, R77, R78). -/
def FifoFits (states : Addr → EntryState) (fifo : List Addr) (negotiating : Option Addr) : Prop :=
  fifo.Nodup ∧ (∀ a, a ∈ fifo ↔ states a = .pending) ∧ ∀ a, states a = .negotiating ↔ negotiating = some a

/-- The states of the entries. -/
def State.states (s : State) (a : Addr) : EntryState := (s.entry a).state

/-- The address of the negotiation in progress. -/
def State.negotiating (s : State) : Option Addr := s.negotiation.map Negotiation.address

theorem fifoLaw_iff (s : State) : s.FifoLaw ↔ FifoFits s.states s.fifo s.negotiating := Iff.rfl

/-- The states after one entry is replaced. -/
theorem states_setEntry (s : State) (a : Addr) (e : Entry) :
    (s.setEntry a e).states = Function.update s.states a e.state := by
  funext b
  simp only [State.states, State.entry_setEntry, Function.update_apply]
  split <;> rfl

theorem states_modifyEntry (s : State) (a : Addr) (f : Entry → Entry) :
    (s.modifyEntry a f).states = Function.update s.states a (f (s.entry a)).state := states_setEntry s a _

theorem states_congr {s t : State} (h : t.roster = s.roster) : t.states = s.states :=
  funext fun a => by simp only [State.states, State.entry_congr h]

theorem negotiating_congr {s t : State} (h : t.negotiation = s.negotiation) : t.negotiating = s.negotiating := by
  rw [State.negotiating, h, State.negotiating]

/-- One entry changes its state, and the FIFO and the negotiation change for its address alone. -/
theorem FifoFits.set {states : Addr → EntryState} {fifo fifo' : List Addr} {neg neg' : Option Addr} {a : Addr}
    {x : EntryState} (h : FifoFits states fifo neg) (hd : fifo'.Nodup) (hf : ∀ b ≠ a, b ∈ fifo' ↔ b ∈ fifo)
    (hp : a ∈ fifo' ↔ x = .pending) (hn : ∀ b ≠ a, neg' = some b ↔ neg = some b) (hx : neg' = some a ↔ x = .negotiating) :
    FifoFits (Function.update states a x) fifo' neg' := by
  obtain ⟨-, hmem, hneg⟩ := h
  refine ⟨hd, fun b => ?_, fun b => ?_⟩ <;> rcases eq_or_ne b a with rfl | hb
  · simpa using hp
  · rw [Function.update_of_ne hb, hf b hb, hmem]
  · simpa using hx.symm
  · rw [Function.update_of_ne hb, hn b hb, hneg]

/-- An entry keeps its state. -/
theorem FifoFits.same {states : Addr → EntryState} {fifo : List Addr} {neg : Option Addr} {a : Addr} {x : EntryState}
    (h : FifoFits states fifo neg) (hx : x = states a) : FifoFits (Function.update states a x) fifo neg := by
  rw [hx, Function.update_eq_self]
  exact h

/-- An entry moves between states that neither the FIFO nor the negotiation unit knows. -/
theorem FifoFits.quiet {states : Addr → EntryState} {fifo : List Addr} {neg : Option Addr} {a : Addr} {x : EntryState}
    (h : FifoFits states fifo neg) (hp : states a ≠ .pending) (hn : states a ≠ .negotiating) (hx : x ≠ .pending)
    (hx' : x ≠ .negotiating) : FifoFits (Function.update states a x) fifo neg :=
  h.set h.1 (fun _ _ => Iff.rfl) (by simp [h.2.1, hp, hx]) (fun _ _ => Iff.rfl) (by simp [← h.2.2, hn, hx'])

/-- An entry under no negotiation becomes PENDING at the tail (R5, R77). -/
theorem FifoFits.append {states : Addr → EntryState} {fifo : List Addr} {neg : Option Addr} {a : Addr}
    (h : FifoFits states fifo neg) (hn : states a ≠ .negotiating) :
    FifoFits (Function.update states a .pending) (if a ∈ fifo then fifo else fifo ++ [a]) neg := by
  have hneg : neg ≠ some a := fun k => hn ((h.2.2 a).mpr k)
  split
  · exact h.set h.1 (fun _ _ => Iff.rfl) (by simp [*]) (fun _ _ => Iff.rfl) (by simp [hneg])
  · rename_i ha
    exact h.set (h.1.append (by simp) (by simpa using ha)) (fun b hb => by simp [hb]) (by simp) (fun _ _ => Iff.rfl)
      (by simp [hneg])

/-- The negotiation of an entry ends, and the entry takes a state of neither kind (R6). -/
theorem FifoFits.finish {states : Addr → EntryState} {fifo : List Addr} {a : Addr} {x : EntryState}
    (h : FifoFits states fifo (some a)) (hx : x ≠ .pending) (hx' : x ≠ .negotiating) :
    FifoFits (Function.update states a x) fifo none := by
  have ha : states a = .negotiating := (h.2.2 a).mpr rfl
  exact h.set h.1 (fun _ _ => Iff.rfl) (by simp [h.2.1, ha, hx]) (fun b hb => by simp [hb.symm]) (by simp [hx'])

/-- The negotiation of an entry is abandoned: the entry is PENDING at the head (R85). -/
theorem FifoFits.abandon {states : Addr → EntryState} {fifo : List Addr} {a : Addr}
    (h : FifoFits states fifo (some a)) :
    FifoFits (Function.update states a .pending) (if a ∈ fifo then fifo else a :: fifo) none := by
  have ha : a ∉ fifo := by simp [h.2.1, (h.2.2 a).mpr rfl]
  rw [if_neg ha]
  exact h.set (List.nodup_cons.mpr ⟨ha, h.1⟩) (fun b hb => by simp [hb]) (by simp) (fun b hb => by simp [hb.symm]) (by simp)

/-- A negotiation starts from the head (R78). -/
theorem FifoFits.start {states : Addr → EntryState} {rest : List Addr} {a : Addr}
    (h : FifoFits states (a :: rest) none) :
    FifoFits (Function.update states a .negotiating) rest (some a) := by
  obtain ⟨ha, hd⟩ := List.nodup_cons.mp h.1
  exact h.set hd (fun b hb => by simp [hb]) (by simp [ha]) (fun b hb => by simp [hb.symm]) (by simp)

/-- An entry leaves the FIFO and its negotiation, whatever its state was (R16). -/
theorem FifoFits.withdraw {states : Addr → EntryState} {fifo : List Addr} {neg : Option Addr} {a : Addr} {x : EntryState}
    (h : FifoFits states fifo neg) (hx : x ≠ .pending) (hx' : x ≠ .negotiating) :
    FifoFits (Function.update states a x) (fifo.erase a) (if neg = some a then none else neg) := by
  refine h.set (h.1.erase a) (fun b hb => by simp [List.mem_erase_of_ne hb]) (by simp [h.1.mem_erase_iff, hx])
    (fun b hb => ?_) ?_
  · split <;> simp_all [hb.symm]
  · split <;> simp_all

/-- An entry restarts as PENDING, whatever its state was (R11). -/
theorem FifoFits.restart {states : Addr → EntryState} {fifo : List Addr} {neg : Option Addr} {a : Addr}
    (h : FifoFits states fifo neg) :
    FifoFits (Function.update states a .pending) (if a ∈ fifo then fifo else fifo ++ [a])
      (if neg = some a then none else neg) := by
  refine h.set ?_ (fun b hb => ?_) ?_ (fun b hb => ?_) ?_
  · split
    · exact h.1
    · rename_i ha
      exact h.1.append (by simp) (by simpa using ha)
  · split <;> simp [hb]
  · split <;> simp [*]
  · split <;> simp_all [hb.symm]
  · split <;> simp_all

/-! ## Entries, units and bindings -/

/-- The laws of the entries and of the binding table that speak neither of the FIFO nor of the line. -/
structure State.EntrySound (s : State) : Prop where
  units : s.UnitLaw
  free : s.FreeLaw
  due : s.DueLaw
  rows : s.BindingRowsLaw
  held : s.BindingHeldLaw

/-- The laws of the roster and of the binding table. -/
structure State.RosterSound (s : State) : Prop extends s.EntrySound where
  fifo : s.FifoLaw

/-- The same entries are FREE, and each holds the same unit number. -/
structure SameIds (s t : State) : Prop where
  free : ∀ a : Addr, (t.entry a).state = .free ↔ (s.entry a).state = .free
  unit : ∀ a : Addr, (t.entry a).unit = (s.entry a).unit

theorem SameIds.of_roster {s t : State} (h : t.roster = s.roster) : SameIds s t :=
  ⟨fun a => by rw [State.entry_congr h], fun a => by rw [State.entry_congr h]⟩

theorem SameIds.refl (s : State) : SameIds s s := .of_roster rfl

theorem SameIds.trans {s t u : State} (h : SameIds s t) (k : SameIds t u) : SameIds s u :=
  ⟨fun a => (k.free a).trans (h.free a), fun a => (k.unit a).trans (h.unit a)⟩

/-- One entry is replaced by one that is FREE as it was and holds its unit number. -/
theorem SameIds.setEntry {s : State} {a : Addr} {e : Entry} (hf : e.state = .free ↔ (s.entry a).state = .free)
    (hu : e.unit = (s.entry a).unit) : SameIds s (s.setEntry a e) := by
  constructor <;> intro b <;> rw [State.entry_setEntry] <;> split <;> simp_all

/-- A store holds an event in one of its slots. -/
def Store.Holds (st : Store) (e : EventRecord) : Prop :=
  st.status = some e ∨ st.condition = some e ∨ st.attention = some e

/-- The laws of entries and bindings, where the same entries are FREE and hold the same units. -/
theorem State.EntrySound.of_ids {s t : State} (h : s.EntrySound) (hi : SameIds s t) (hb : t.bindings = s.bindings)
    (hst : t.stores = s.stores) (hf : t.FreeLaw) (hd : t.DueLaw) : t.EntrySound := by
  refine ⟨fun a b ha hb' hu => ?_, hf, hd, ?_, fun i b hib => ?_⟩
  · rw [hi.unit, hi.unit] at hu
    exact h.units a b ((hi.free a).not.mp ha) ((hi.free b).not.mp hb') hu
  · intro i j b c
    rw [hb]
    exact h.rows i j b c
  · rw [hb] at hib
    obtain ⟨h1, h2⟩ := h.held i b hib
    refine ⟨fun a ha => ?_, fun e he => ?_⟩
    · rw [hi.unit]
      exact h1 a ((hi.free a).not.mp ha)
    · rw [State.store_congr hst] at he
      exact h2 e he

/-- Nothing that the laws of entries and bindings speak of is changed. -/
theorem State.EntrySound.of_eq {s t : State} (h : s.EntrySound) (hr : t.roster = s.roster)
    (hb : t.bindings = s.bindings) (hst : t.stores = s.stores) : t.EntrySound :=
  h.of_ids (.of_roster hr) hb hst (fun a => by rw [State.entry_congr hr]; exact h.free a)
    (fun a => by rw [State.entry_congr hr]; exact h.due a)

/-- An entry that is not FREE is replaced by one that is not FREE and holds its unit number. -/
theorem State.EntrySound.setEntry {s : State} {a : Addr} {e : Entry} (h : s.EntrySound) (ha : (s.entry a).state ≠ .free)
    (he : e.state ≠ .free) (hu : e.unit = (s.entry a).unit)
    (hd : e.due = true → e.state = .active ∨ e.state = .lost) : (s.setEntry a e).EntrySound := by
  refine h.of_ids (.setEntry (by simp [ha, he]) hu) rfl rfl (fun b hb => ?_) (fun b hb => ?_) <;>
    rw [State.entry_setEntry] at hb ⊢ <;> split at hb
  · exact absurd hb he
  · rw [if_neg ‹_›]
    exact h.free b hb
  · rw [if_pos ‹_›]
    exact hd hb
  · rw [if_neg ‹_›]
    exact h.due b hb

/-- An entry becomes FREE (R5). -/
theorem State.EntrySound.setEmpty {s : State} (a : Addr) (h : s.EntrySound) : (s.setEntry a Entry.empty).EntrySound := by
  have hne {b : Addr} (hb : ((s.setEntry a Entry.empty).entry b).state ≠ .free) : b ≠ a := by
    rintro rfl
    simp [Entry.empty] at hb
  refine ⟨fun b c hb hc hu => ?_, fun b hb => ?_, fun b hb => ?_, h.rows, fun i r hi => ⟨fun b hb => ?_, (h.held i r hi).2⟩⟩
  · have hba := hne hb
    have hca := hne hc
    rw [State.entry_setEntry_ne _ _ hba] at hb hu
    rw [State.entry_setEntry_ne _ _ hca] at hc hu
    exact h.units b c hb hc hu
  · rw [State.entry_setEntry] at hb ⊢
    split at hb
    · simp [*]
    · rw [if_neg ‹_›]
      exact h.free b hb
  · rw [State.entry_setEntry] at hb ⊢
    split at hb
    · simp [Entry.empty] at hb
    · rw [if_neg ‹_›]
      exact h.due b hb
  · have hba := hne hb
    rw [State.entry_setEntry_ne _ _ hba] at hb ⊢
    exact (h.held i r hi).1 b hb

/-- A FREE entry is taken for a unit that no entry holds and that the binding table allows there (R9). -/
theorem State.EntrySound.create {s : State} {a : Addr} {e : Entry} (h : s.EntrySound) (hf : e.state ≠ .free)
    (hd : e.due = true → e.state = .active ∨ e.state = .lost)
    (hu : ∀ b : Addr, (s.entry b).state ≠ .free → (s.entry b).unit ≠ e.unit)
    (hb : ∀ i : Fin 8, ∀ r, s.bindings[i.val] = some r → (r.address = a ↔ r.unit = e.unit)) :
    (s.setEntry a e).EntrySound := by
  refine ⟨fun b c hb hc hu' => ?_, fun b hb => ?_, fun b hb => ?_, h.rows,
    fun i r hi => ⟨fun b hb' => ?_, (h.held i r hi).2⟩⟩
  · rw [State.entry_setEntry] at hb hc
    rw [State.entry_setEntry, State.entry_setEntry] at hu'
    by_cases hba : b = a <;> by_cases hca : c = a <;>
      simp only [hba, hca, if_true, if_false] at hb hc hu'
    · rw [hba, hca]
    · exact absurd hu'.symm (hu c hc)
    · exact absurd hu' (hu b hb)
    · exact h.units b c hb hc hu'
  · rw [State.entry_setEntry] at hb ⊢
    split at hb
    · exact absurd hb hf
    · rw [if_neg ‹_›]
      exact h.free b hb
  · rw [State.entry_setEntry] at hb ⊢
    split at hb
    · rw [if_pos ‹_›]
      exact hd hb
    · rw [if_neg ‹_›]
      exact h.due b hb
  · rw [State.entry_setEntry] at hb' ⊢
    split at hb'
    · rename_i hba
      rw [if_pos hba, hba, eq_comm, hb i r hi, eq_comm]
    · rw [if_neg ‹_›]
      exact (h.held i r hi).1 b hb'

/-- A store takes only events it held, or events about its entry with the unit number the entry holds (R145). -/
theorem State.EntrySound.setStore {s : State} {a : Addr} {st : Store} (h : s.EntrySound)
    (hst : ∀ e, st.Holds e → (s.store a).Holds e ∨ ((s.entry a).state ≠ .free ∧ e.unit = (s.entry a).unit)) :
    (s.setStore a st).EntrySound := by
  refine ⟨h.units, h.free, h.due, h.rows, fun i r hi => ⟨(h.held i r hi).1, fun e he => ?_⟩⟩
  rw [State.store_setStore] at he
  split at he
  · rename_i hra
    rcases hst e he with hold | ⟨hf, hu⟩
    · exact (h.held i r hi).2 e (by rw [hra]; exact hold)
    · rw [hu]
      exact ((h.held i r hi).1 a hf).mp hra.symm
  · exact (h.held i r hi).2 e he

/-- What a store holds after an event is placed. -/
theorem holds_place {st : Store} {e f : EventRecord} (h : (st.place e).Holds f) : f = e ∨ st.Holds f := by
  unfold Store.place Store.Holds at *
  split at h <;> simp only [Option.some.injEq] at h <;> tauto

/-- The waiting places after an event about an address is raised. -/
theorem raiseAt_stores (a : Addr) (d : EventData) (s : State) :
    (s.raiseAt a d).stores = s.stores ∨ (s.raiseAt a d).stores =
      (s.setStore a ((s.store a).place { address := some a, unit := (s.entry a).unit, data := d })).stores := by
  rw [State.raiseAt, raise_eq rfl]
  split
  · exact .inl rfl
  · exact .inr rfl

/-- Raising an event about an entry that is not FREE keeps the laws of entries and bindings. -/
theorem State.EntrySound.raiseAt {s : State} {a : Addr} (d : EventData) (h : s.EntrySound)
    (ha : (s.entry a).state ≠ .free) : (s.raiseAt a d).EntrySound := by
  have hw := raiseAt_sameWork a d s
  rcases raiseAt_stores a d s with hst | hst
  · exact h.of_eq hw.roster hw.bindings hst
  · refine (h.setStore (a := a) fun e he => ?_).of_eq hw.roster hw.bindings hst
    rcases holds_place he with rfl | hold
    · exact .inr ⟨ha, rfl⟩
    · exact .inl hold

/-! ## Raising and verdicts -/

/-- Raising an event leaves the queue. -/
theorem raise_queue (e : EventRecord) (s : State) : (s.raise e).queue = s.queue := by
  unfold State.raise
  split
  · rfl
  · exact (hold_ring_queue e s).2

/-- A verdict leaves the waiting events. -/
theorem giveVerdict_stores (t : Byte) (v : Completion) (s : State) : (s.giveVerdict t v).stores = s.stores := by
  have hn : s.noteBacklog.stores = s.stores := by
    unfold State.noteBacklog
    split <;> rfl
  unfold State.giveVerdict
  split
  · rfl
  split
  · rfl
  split
  · rfl
  · rfl
  · split
    · rfl
    · exact hn

/-- The verdicts of one cause leave the waiting events. -/
theorem giveVerdicts_stores (which : Request → Option Completion) (s : State) :
    (s.giveVerdicts which).stores = s.stores := by
  unfold State.giveVerdicts
  generalize s.queue.filterMap _ = l
  induction l generalizing s with
  | nil => rfl
  | cons w rest ih => exact (ih _).trans (giveVerdict_stores w.1 w.2 s)

/-- Verdicts keep the laws of entries and bindings. -/
theorem State.EntrySound.giveVerdicts {s : State} (which : Request → Option Completion) (h : s.EntrySound) :
    (s.giveVerdicts which).EntrySound :=
  have hw := giveVerdicts_sameWork which s
  h.of_eq hw.roster hw.bindings (giveVerdicts_stores which s)

/-- Nothing that the laws of the roster speak of is changed. -/
theorem State.RosterSound.of_eq {s t : State} (h : s.RosterSound) (hr : t.roster = s.roster)
    (hb : t.bindings = s.bindings) (hst : t.stores = s.stores) (hf : t.fifo = s.fifo)
    (hn : t.negotiation = s.negotiation) : t.RosterSound := by
  refine ⟨h.toEntrySound.of_eq hr hb hst, ?_⟩
  have := (fifoLaw_iff s).mp h.fifo
  rw [fifoLaw_iff, states_congr hr, hf]
  simpa only [State.negotiating, hn] using this

/-- The laws of the roster, from those of the entries and the three facts of the FIFO law. -/
theorem State.EntrySound.withFifo {t : State} {states : Addr → EntryState} {fifo : List Addr} {neg : Option Addr}
    (h : t.EntrySound) (hk : FifoFits states fifo neg) (hs : t.states = states)
    (hf : t.fifo = fifo) (hn : t.negotiating = neg) : t.RosterSound :=
  ⟨h, by rw [fifoLaw_iff, hs, hf, hn]; exact hk⟩

end Sys2Proof.Machine
end

section
/-! PROOF. The operations of the roster, the census, the negotiation and the sweep keep the laws of the roster and of the
binding table. -/

namespace Sys2Proof.Machine

/-! ## What raising an event, giving verdicts and ending a negotiation leave -/

section
variable (s : State) (a : Addr) (d : EventData) (which : Request → Option Completion)

@[simp] theorem raiseAt_roster : (s.raiseAt a d).roster = s.roster := (raiseAt_sameWork a d s).roster
@[simp] theorem raiseAt_fifo : (s.raiseAt a d).fifo = s.fifo := (raiseAt_sameWork a d s).fifo
@[simp] theorem raiseAt_negotiation : (s.raiseAt a d).negotiation = s.negotiation := (raiseAt_sameWork a d s).negotiation
@[simp] theorem raiseAt_round : (s.raiseAt a d).round = s.round := (raiseAt_sameWork a d s).round
@[simp] theorem raiseAt_censusState : (s.raiseAt a d).censusState = s.censusState := (raiseAt_sameWork a d s).censusState
@[simp] theorem raiseAt_queue : (s.raiseAt a d).queue = s.queue := raise_queue _ s

@[simp] theorem giveVerdicts_roster : (s.giveVerdicts which).roster = s.roster := (giveVerdicts_sameWork which s).roster
@[simp] theorem giveVerdicts_fifo : (s.giveVerdicts which).fifo = s.fifo := (giveVerdicts_sameWork which s).fifo
@[simp] theorem giveVerdicts_negotiation : (s.giveVerdicts which).negotiation = s.negotiation :=
  (giveVerdicts_sameWork which s).negotiation
@[simp] theorem giveVerdicts_round : (s.giveVerdicts which).round = s.round := (giveVerdicts_sameWork which s).round
@[simp] theorem giveVerdicts_censusState : (s.giveVerdicts which).censusState = s.censusState :=
  (giveVerdicts_sameWork which s).censusState

@[simp] theorem endNegotiation_roster : s.endNegotiation.roster = s.roster := by rw [endNegotiation_eq]; rfl
@[simp] theorem endNegotiation_bindings : s.endNegotiation.bindings = s.bindings := by rw [endNegotiation_eq]; rfl
@[simp] theorem endNegotiation_stores : s.endNegotiation.stores = s.stores := by rw [endNegotiation_eq]; rfl
@[simp] theorem endNegotiation_fifo : s.endNegotiation.fifo = s.fifo := by rw [endNegotiation_eq]; rfl
@[simp] theorem endNegotiation_negotiation : s.endNegotiation.negotiation = none := by rw [endNegotiation_eq]; rfl
@[simp] theorem endNegotiation_round : s.endNegotiation.round = s.round := by rw [endNegotiation_eq]; rfl
@[simp] theorem endNegotiation_censusState : s.endNegotiation.censusState = s.censusState := by rw [endNegotiation_eq]; rfl
@[simp] theorem endNegotiation_queue : s.endNegotiation.queue = s.queue := by rw [endNegotiation_eq]; rfl

end

/-- Reading the entry just changed. -/
@[simp] theorem entry_modifyEntry_self (s : State) (a : Addr) (f : Entry → Entry) :
    (s.modifyEntry a f).entry a = f (s.entry a) := State.entry_setEntry_self s a _

@[simp] theorem modifyEntry_fifo (s : State) (a : Addr) (f : Entry → Entry) : (s.modifyEntry a f).fifo = s.fifo := rfl

@[simp] theorem modifyEntry_negotiation (s : State) (a : Addr) (f : Entry → Entry) :
    (s.modifyEntry a f).negotiation = s.negotiation := rfl

/-- The FIFO after an address is put at the tail. -/
theorem appendFifo_fifo (s : State) (a : Addr) :
    (s.appendFifo a).fifo = if a ∈ s.fifo then s.fifo else s.fifo ++ [a] := by
  unfold State.appendFifo
  split <;> rfl

/-- Putting an address at the tail changes the FIFO alone. -/
theorem appendFifo_eq (s : State) (a : Addr) : s.appendFifo a = { s with fifo := (s.appendFifo a).fifo } := by
  unfold State.appendFifo
  split <;> rfl

@[simp] theorem appendFifo_roster (s : State) (a : Addr) : (s.appendFifo a).roster = s.roster := by rw [appendFifo_eq]

@[simp] theorem appendFifo_negotiation (s : State) (a : Addr) : (s.appendFifo a).negotiation = s.negotiation := by
  rw [appendFifo_eq]

/-- Putting an address at the tail keeps the laws of entries and bindings. -/
theorem State.EntrySound.appendFifo {s : State} (a : Addr) (h : s.EntrySound) : (s.appendFifo a).EntrySound := by
  rw [appendFifo_eq]
  exact h.of_eq rfl rfl rfl

/-- The end of the negotiation of one address leaves its record empty and any other as it was. -/
theorem endNegotiationOf_eq (a : Addr) (s : State) :
    s.endNegotiationOf a = if s.negotiating = some a then s.endNegotiation else s := by
  unfold State.endNegotiationOf State.negotiating
  cases s.negotiation <;> simp

/-! ## Entries -/

/-- The states of the entries, where the one changed keeps its state. -/
theorem states_modifyEntry_same {s : State} {a : Addr} {f : Entry → Entry} (hf : (f (s.entry a)).state = (s.entry a).state) :
    (s.modifyEntry a f).states = s.states := by
  rw [states_modifyEntry, hf]
  exact Function.update_eq_self a s.states

/-- An entry that is not FREE changes, but neither its state nor its unit number; it is due only if it was. -/
theorem State.RosterSound.modifyEntry {s : State} {a : Addr} {f : Entry → Entry} (h : s.RosterSound)
    (ha : (s.entry a).state ≠ .free) (hs : (f (s.entry a)).state = (s.entry a).state)
    (hu : (f (s.entry a)).unit = (s.entry a).unit) (hd : (f (s.entry a)).due = true → (s.entry a).due = true) :
    (s.modifyEntry a f).RosterSound :=
  (h.setEntry (e := f (s.entry a)) ha (hs ▸ ha) hu fun k => hs ▸ h.due a (hd k)).withFifo ((fifoLaw_iff s).mp h.fifo)
    (states_modifyEntry_same hs) rfl rfl

/-- Raising an event about an entry that is not FREE keeps the laws of the roster. -/
theorem State.RosterSound.raiseAt {s : State} {a : Addr} (d : EventData) (h : s.RosterSound)
    (ha : (s.entry a).state ≠ .free) : (s.raiseAt a d).RosterSound :=
  (h.toEntrySound.raiseAt d ha).withFifo ((fifoLaw_iff s).mp h.fifo) (states_congr (by simp)) (by simp)
    (by simp [State.negotiating])

/-- Verdicts keep the laws of the roster. -/
theorem State.RosterSound.giveVerdicts {s : State} (which : Request → Option Completion) (h : s.RosterSound) :
    (s.giveVerdicts which).RosterSound :=
  h.of_eq (by simp) (giveVerdicts_sameWork which s).bindings (giveVerdicts_stores which s) (by simp) (by simp)

/-- An entry that is neither FREE nor under negotiation enters PENDING at the tail (R5). -/
theorem State.RosterSound.enterPending {s : State} {a : Addr} (h : s.RosterSound) (ha : (s.entry a).state ≠ .free)
    (hn : (s.entry a).state ≠ .negotiating) : (s.enterPending a).RosterSound := by
  have hset : (s.modifyEntry a fun e => { e with state := .pending, due := false }).EntrySound :=
    h.setEntry ha (by simp) rfl (by simp)
  exact (hset.appendFifo a).withFifo (((fifoLaw_iff s).mp h.fifo).append hn)
    ((states_congr (appendFifo_roster _ a)).trans (states_modifyEntry s a _)) (appendFifo_fifo _ a)
    (negotiating_congr (appendFifo_negotiation _ a))

/-- Entering LOST keeps the laws of entries and bindings, the FIFO and the negotiation; the entry is LOST (R5). -/
theorem State.EntrySound.enterLost {s : State} {a : Addr} (h : s.EntrySound) (ha : (s.entry a).state ≠ .free) :
    (s.enterLost a).EntrySound ∧ (s.enterLost a).states = Function.update s.states a .lost ∧
      (s.enterLost a).fifo = s.fifo ∧ (s.enterLost a).negotiation = s.negotiation := by
  have hset : (s.modifyEntry a fun e => { e with state := .lost, holdOff := none }).EntrySound :=
    h.setEntry ha (by simp) rfl (by simp)
  unfold State.enterLost State.giveAddressVerdicts
  set u := s.modifyEntry a fun e => { e with state := .lost, holdOff := none } with hu
  refine ⟨(hset.giveVerdicts _).raiseAt _ ?_, ?_, ?_, ?_⟩
  · rw [State.entry_congr (s := u) (by simp), hu, entry_modifyEntry_self]
    simp
  · exact (states_congr (s := u) (by simp)).trans (states_modifyEntry s a _)
  · simp [hu]
  · simp [hu]

/-- One miss more keeps the laws of the roster (R107, R108). -/
theorem State.RosterSound.addMiss {s : State} {a : Addr} (h : s.RosterSound) (ha : (s.entry a).state ≠ .free) :
    (s.addMiss a).RosterSound := by
  unfold State.addMiss
  dsimp only
  generalize min Config.nibbleMax ((s.entry a).misses + 1) = count
  have h1 : (s.modifyEntry a fun e => { e with misses := count }).RosterSound := h.modifyEntry ha rfl rfl id
  split
  · rename_i hc
    have hact : (s.entry a).state = .active := by simp_all
    obtain ⟨hl, hst, hf, hn⟩ := h1.toEntrySound.enterLost (a := a) (by rw [entry_modifyEntry_self]; exact ha)
    have hsame : (s.modifyEntry a fun e => { e with misses := count }).states = s.states := states_modifyEntry_same rfl
    rw [hsame] at hst
    exact hl.withFifo (((fifoLaw_iff s).mp h.fifo).quiet (by simp [State.states, hact]) (by simp [State.states, hact])
      (by simp) (by simp)) hst hf (by simp [State.negotiating, hn])
  · exact h1

/-- A RELEASING entry becomes FREE (R5, R10, R19). -/
theorem State.RosterSound.becomeFree {s : State} {a : Addr} (answered : Bool) (h : s.RosterSound)
    (ha : (s.entry a).state = .releasing) : (s.becomeFree a answered).RosterSound := by
  have h1 := h.toEntrySound.raiseAt (a := a) (.released answered) (by simp [ha])
  have hk := (fifoLaw_iff s).mp h.fifo
  have hnot : a ∉ s.fifo := by simp [hk.2.1, State.states, ha]
  refine ((h1.setEmpty a).of_eq rfl rfl rfl : (s.becomeFree a answered).EntrySound).withFifo
    (hk.quiet (x := .free) (a := a) (by simp [State.states, ha]) (by simp [State.states, ha]) (by simp) (by simp)) ?_ ?_ ?_
  · refine (states_setEntry _ a Entry.empty).trans ?_
    rw [states_congr (raiseAt_roster s a (.released answered))]
    rfl
  · simp [State.becomeFree, State.dropFifo, List.erase_of_not_mem hnot]
  · simp [State.negotiating, State.becomeFree, State.dropFifo]

/-! ## The negotiation -/

/-- The end of the negotiation of an entry that has taken a state of neither kind keeps the laws of the roster (R6, R91). -/
theorem State.EntrySound.endNegotiation {s t : State} {a : Addr} {x : EntryState} (ht : t.EntrySound) (h : s.RosterSound)
    (hn : s.negotiating = some a) (hs : t.states = Function.update s.states a x) (hf : t.fifo = s.fifo)
    (hx : x ≠ .pending) (hx' : x ≠ .negotiating) : t.endNegotiation.RosterSound :=
  (ht.of_eq (by simp) (by simp) (by simp) : t.endNegotiation.EntrySound).withFifo
    ((hn ▸ (fifoLaw_iff s).mp h.fifo).finish hx hx') ((states_congr (by simp)).trans hs) (by simp [hf])
    (by simp [State.negotiating])

/-- The entry of the negotiation in progress is NEGOTIATING (R78). -/
theorem State.RosterSound.negotiating {s : State} {a : Addr} (h : s.RosterSound) (hn : s.negotiating = some a) :
    (s.entry a).state = .negotiating := (((fifoLaw_iff s).mp h.fifo).2.2 a).mpr hn

/-- A disable or a fault abandons the negotiation in progress (R85). -/
theorem State.RosterSound.abandonNegotiation {s : State} (h : s.RosterSound) : s.abandonNegotiation.RosterSound := by
  unfold State.abandonNegotiation
  split
  · exact h
  rename_i n hn
  have hneg : s.negotiating = some n.address := by simp [State.negotiating, hn]
  have hset : (s.modifyEntry n.address fun e => { e with state := .pending, due := false, pages := [] }).EntrySound :=
    h.setEntry (by simp [h.negotiating hneg]) (by simp) rfl (by simp)
  have hk := (hneg ▸ (fifoLaw_iff s).mp h.fifo).abandon
  set u := s.modifyEntry n.address fun e => { e with state := .pending, due := false, pages := [] } with hu
  have hp : u.prependFifo n.address = { u with fifo := if n.address ∈ s.fifo then s.fifo else n.address :: s.fifo } := by
    simp only [State.prependFifo, hu, modifyEntry_fifo]
    split <;> rfl
  rw [hp]
  exact (hset.of_eq (by simp) (by simp) (by simp) : State.EntrySound (State.endNegotiation _)).withFifo hk
    ((states_congr (s := u) (by simp)).trans (states_modifyEntry s _ _)) (by simp) (by simp [State.negotiating])

/-- A negotiation that fails leaves its entry REFUSED (R89). -/
theorem State.RosterSound.failNegotiation {s : State} {n : Negotiation} (r : RefusalReason) (h : s.RosterSound)
    (hn : s.negotiating = some n.address) : (s.failNegotiation n r).RosterSound := by
  have hset : (s.modifyEntry n.address fun e => { e with state := .refused, due := false }).EntrySound :=
    h.setEntry (by simp [h.negotiating hn]) (by simp) rfl (by simp)
  have hraised := hset.raiseAt (a := n.address) (.refused r) (by simp)
  exact (hraised.giveVerdicts _).endNegotiation h hn (x := .refused)
    ((states_congr ((giveVerdicts_roster _ _).trans (raiseAt_roster _ _ _))).trans (states_modifyEntry s _ _))
    ((giveVerdicts_fifo _ _).trans (raiseAt_fifo _ _ _)) (by simp) (by simp)

/-- A change of the negotiation's counts keeps the laws of the roster. -/
theorem State.RosterSound.setNegotiation {s t : State} (h : s.RosterSound) (hr : t.roster = s.roster)
    (hb : t.bindings = s.bindings) (hst : t.stores = s.stores) (hf : t.fifo = s.fifo)
    (hn : t.negotiating = s.negotiating) : t.RosterSound :=
  (h.toEntrySound.of_eq hr hb hst).withFifo ((fifoLaw_iff s).mp h.fifo) (states_congr hr) hf hn

/-- A protocol error restarts the negotiation or fails it (R82). -/
theorem State.RosterSound.protocolError {s : State} {n : Negotiation} (h : s.RosterSound)
    (hn : s.negotiating = some n.address) : (s.protocolError n).RosterSound := by
  unfold State.protocolError
  split
  · have h1 : (s.modifyEntry n.address fun e => { e with pages := [] }).RosterSound :=
      h.modifyEntry (by simp [h.negotiating hn]) rfl rfl id
    exact h1.setNegotiation rfl rfl rfl rfl hn.symm
  · exact h.failNegotiation _ hn

/-- A resolution leaves its entry ACTIVE, or REFUSED (R87, R88). -/
theorem State.RosterSound.resolveNegotiation {s : State} {n : Negotiation} (h : s.RosterSound)
    (hn : s.negotiating = some n.address) : (s.resolveNegotiation n).RosterSound := by
  unfold State.resolveNegotiation
  dsimp only
  split
  · exact h.failNegotiation _ hn
  rename_i terms _
  generalize interpretPages _ _ = d
  have hset : (s.modifyEntry n.address fun e => e.resolved terms d).EntrySound :=
    h.setEntry (by simp [h.negotiating hn]) (by simp [Entry.resolved]) rfl fun _ => .inl rfl
  have hraised := hset.raiseAt (a := n.address) (.joined terms d.deviceClass) (by simp [Entry.resolved])
  exact (hraised.giveVerdicts _).endNegotiation h hn (x := .active)
    ((states_congr ((giveVerdicts_roster _ _).trans (raiseAt_roster _ _ _))).trans (states_modifyEntry s _ _))
    ((giveVerdicts_fifo _ _).trans (raiseAt_fifo _ _ _)) (by simp) (by simp)

/-- A kept page leads to the next index, to resolution or to a failure (R80, R81). -/
theorem State.RosterSound.pageKept {s : State} {n : Negotiation} (w : PageWord) (h : s.RosterSound)
    (hn : s.negotiating = some n.address) : (s.pageKept n w).RosterSound := by
  have h1 : (s.modifyEntry n.address fun e => { e with pages := keepPage e.pages w }).RosterSound :=
    h.modifyEntry (by simp [h.negotiating hn]) rfl rfl id
  unfold State.pageKept
  dsimp only
  split
  · exact h1.resolveNegotiation hn
  split
  · exact h1.failNegotiation _ hn
  · exact h1.setNegotiation rfl rfl rfl rfl hn.symm

/-- The judgement of a node page keeps the laws of the roster (R80). -/
theorem State.RosterSound.judgePage {s : State} {n : Negotiation} (w : PageWord) (h : s.RosterSound)
    (hn : s.negotiating = some n.address) : (s.judgePage n w).RosterSound := by
  unfold State.judgePage
  split
  · exact h.protocolError hn
  split
  · exact h.protocolError hn
  split
  · exact h.failNegotiation _ hn
  split
  · exact h.failNegotiation _ hn
  · exact h.pageKept w hn

/-- The end of a PAGE exchange keeps the laws of the roster (R79, R84, R85). -/
theorem State.RosterSound.pageEnd {s : State} (a : Addr) (e : ExchangeEnd) (h : s.RosterSound) :
    (s.pageEnd a e).RosterSound := by
  unfold State.pageEnd
  split
  · exact h
  rename_i n hn
  split
  · exact h
  rename_i ha
  have hneg : s.negotiating = some n.address := by simp [State.negotiating, hn]
  have hna : n.address = a := by simpa using ha
  split
  · exact h.abandonNegotiation
  split
  · exact h.judgePage _ hneg
  · exact h.protocolError hneg
  · unfold State.pageWait
    dsimp only
    split
    · exact h.protocolError hneg
    · exact h.setNegotiation rfl rfl rfl rfl hneg.symm
  · rw [hna] at hneg
    obtain ⟨hl, hst, hf, -⟩ := h.toEntrySound.enterLost (a := a) (by simp [h.negotiating hneg])
    exact hl.endNegotiation h hneg hst hf (by simp) (by simp)
  · exact h.abandonNegotiation
  · exact h.abandonNegotiation
  · exact h

/-! ## RELEASE and the rejoin -/

/-- The state after the negotiation of an address ends, as far as the roster is concerned. -/
theorem endNegotiationOf_tables (a : Addr) (s : State) :
    (s.endNegotiationOf a).roster = s.roster ∧ (s.endNegotiationOf a).bindings = s.bindings ∧
      (s.endNegotiationOf a).stores = s.stores ∧ (s.endNegotiationOf a).fifo = s.fifo ∧
      (s.endNegotiationOf a).negotiating = if s.negotiating = some a then none else s.negotiating := by
  rw [endNegotiationOf_eq]
  split <;> simp [State.negotiating]

/-- RELEASE of an entry that is not FREE keeps the laws of the roster (R16). -/
theorem State.RosterSound.releaseEntry {s : State} {a : Addr} (h : s.RosterSound) (ha : (s.entry a).state ≠ .free) :
    (s.releaseEntry a).RosterSound := by
  have hv : (s.giveAddressVerdicts a .released).RosterSound := h.giveVerdicts _
  have hvr : (s.giveAddressVerdicts a .released).roster = s.roster := giveVerdicts_roster s _
  have hvf : (s.giveAddressVerdicts a .released).fifo = s.fifo := giveVerdicts_fifo s _
  have hvn : (s.giveAddressVerdicts a .released).negotiating = s.negotiating := negotiating_congr (giveVerdicts_negotiation s _)
  obtain ⟨hr, hb, hst, hf, hn⟩ := endNegotiationOf_tables a (s.giveAddressVerdicts a .released)
  unfold State.releaseEntry
  dsimp only
  set u := ((s.giveAddressVerdicts a .released).endNegotiationOf a).dropFifo a with hu
  have hroster : u.roster = s.roster := hr.trans hvr
  have h1 : u.EntrySound := hv.toEntrySound.of_eq hr hb hst
  have h2 : (u.modifyEntry a fun e => { e with state := .releasing, attention := .none, due := false }).EntrySound :=
    h1.setEntry (by rwa [State.entry_congr hroster]) (by simp) rfl (by simp)
  have h3 := h2.setStore (a := a) (st := (u.store a).dropAttention) fun e he => by
    simp only [Store.Holds, Store.dropAttention, reduceCtorEq, or_false] at he
    exact .inl (he.imp_right .inl)
  refine h3.withFifo (((fifoLaw_iff s).mp h.fifo).withdraw (a := a) (x := .releasing) (by simp) (by simp)) ?_ ?_ ?_
  · rw [states_congr (setStore_sameWork a _ _).roster, states_modifyEntry, states_congr hroster]
  · exact congrArg (fun l => l.erase a) (hf.trans hvf)
  · exact hn.trans (by rw [hvn])

/-- An accepted rejoin of an entry that is not FREE keeps the laws of the roster (R11). -/
theorem State.RosterSound.rejoin {s : State} {a : Addr} (h : s.RosterSound) (ha : (s.entry a).state ≠ .free) :
    (s.rejoin a).RosterSound := by
  have hv : (s.giveAddressVerdicts a .nodeRestarted).RosterSound := h.giveVerdicts _
  have hvr : (s.giveAddressVerdicts a .nodeRestarted).roster = s.roster := giveVerdicts_roster s _
  have hvf : (s.giveAddressVerdicts a .nodeRestarted).fifo = s.fifo := giveVerdicts_fifo s _
  have hvn : (s.giveAddressVerdicts a .nodeRestarted).negotiating = s.negotiating :=
    negotiating_congr (giveVerdicts_negotiation s _)
  obtain ⟨hr, hb, hst, hf, hn⟩ := endNegotiationOf_tables a (s.giveAddressVerdicts a .nodeRestarted)
  unfold State.rejoin
  dsimp only
  set u := (s.giveAddressVerdicts a .nodeRestarted).endNegotiationOf a with hu
  have hroster : u.roster = s.roster := hr.trans hvr
  have h1 : u.EntrySound := hv.toEntrySound.of_eq hr hb hst
  have h2 : (u.modifyEntry a Entry.rejoined).EntrySound :=
    h1.setEntry (by rwa [State.entry_congr hroster]) (by simp [Entry.rejoined]) rfl (by simp [Entry.rejoined])
  have h3 := h2.setStore (a := a) (st := ((u.modifyEntry a Entry.rejoined).store a).rejoined) fun e he => by
    simp only [Store.Holds, Store.rejoined, reduceCtorEq, or_false] at he
    exact .inl (.inl he)
  set v := State.setStore a ((u.modifyEntry a Entry.rejoined).store a).rejoined (u.modifyEntry a Entry.rejoined) with hvdef
  have hvent : v.entry a = (s.entry a).rejoined := by
    rw [State.entry_congr (t := v) (s := u.modifyEntry a Entry.rejoined) rfl, entry_modifyEntry_self,
      State.entry_congr hroster]
  have hsound : (v.appendFifo a).RosterSound := by
    refine (h3.appendFifo a).withFifo (((fifoLaw_iff s).mp h.fifo).restart (a := a)) ?_ ?_ ?_
    · rw [states_congr (appendFifo_roster v a)]
      exact (states_modifyEntry u a _).trans (by rw [states_congr hroster]; rfl)
    · rw [appendFifo_fifo, show v.fifo = s.fifo from hf.trans hvf]
    · exact (negotiating_congr (appendFifo_negotiation v a)).trans (hn.trans (by rw [hvn]))
  have hcount : (v.appendFifo a).countClaim.RosterSound := hsound.of_eq rfl rfl rfl rfl rfl
  refine hcount.raiseAt _ ?_
  rw [State.entry_congr (t := (v.appendFifo a).countClaim) (s := v) (appendFifo_roster v a), hvent]
  simp [Entry.rejoined]

/-- An accepted CLAIM of a new unit at a FREE address that suits the binding table keeps the laws of the roster (R9). -/
theorem State.RosterSound.createEntry {s : State} {u : UnitNumber} {a : Addr} (h : s.RosterSound)
    (ha : (s.entry a).state = .free) (hu : ∀ b : Addr, (s.entry b).state ≠ .free → (s.entry b).unit ≠ u)
    (hb : ∀ i : Fin 8, ∀ r, s.bindings[i.val] = some r → (r.address = a ↔ r.unit = u)) :
    (s.createEntry u a).RosterSound := by
  have hset : (s.setEntry a { Entry.empty with state := .pending, unit := u }).EntrySound :=
    h.create (by simp) (by simp [Entry.empty]) hu hb
  refine ((hset.appendFifo a).of_eq rfl rfl rfl : (s.createEntry u a).EntrySound).withFifo
    (((fifoLaw_iff s).mp h.fifo).append (a := a) (by simp [State.states, ha])) ?_ (appendFifo_fifo _ a) ?_
  · rw [states_congr (s := s.setEntry a { Entry.empty with state := .pending, unit := u })
      (by rw [State.createEntry, appendFifo_eq]; rfl)]
    exact states_setEntry s a _
  · rw [State.createEntry, appendFifo_eq]
    rfl

/-- The effect of an accepted CLAIM keeps the laws of the roster (R9, R11, R62, R69). -/
theorem State.RosterSound.claimAccepted {s : State} (h : s.RosterSound) (hr : s.RoundLaw) :
    s.claimAccepted.RosterSound := by
  unfold State.claimAccepted
  split
  · rename_i u a hround
    obtain ⟨hnew, -, hb⟩ := hr u a false hround
    exact h.createEntry (hnew rfl).1 (hnew rfl).2 hb
  · rename_i u a hround
    have ha := ((hr u a true hround).2.1 rfl).1
    split
    · exact (h.modifyEntry ha rfl rfl id : (s.modifyEntry a fun e => { e with toggle := false }).RosterSound).of_eq
        rfl rfl rfl rfl rfl
    · exact h.rejoin ha
  · exact h

/-! ## The sweep -/

/-- The answer of a probe brings a LOST entry back (R7, R110). -/
theorem State.RosterSound.probeReturn {s : State} {a : Addr} (h : s.RosterSound) (ha : (s.entry a).state = .lost) :
    (s.probeReturn a).RosterSound ∧ ((s.probeReturn a).entry a).state ≠ .free := by
  unfold State.probeReturn
  split
  · have hset : (s.modifyEntry a fun e => { e with state := .active }).EntrySound :=
      h.setEntry (by simp [ha]) (by simp) rfl fun _ => .inl rfl
    have h1 : (s.modifyEntry a fun e => { e with state := .active }).RosterSound :=
      hset.withFifo (((fifoLaw_iff s).mp h.fifo).quiet (a := a) (x := .active) (by simp [State.states, ha])
        (by simp [State.states, ha]) (by simp) (by simp)) (states_modifyEntry s a _) rfl rfl
    exact ⟨h1.raiseAt _ (by simp), by rw [State.entry_congr (raiseAt_roster _ _ _)]; simp⟩
  · have h1 := h.enterPending (a := a) (by simp [ha]) (by simp [ha])
    have he : ((s.enterPending a).entry a).state = .pending := by
      rw [State.entry_congr (s := s.modifyEntry a fun e => { e with state := .pending, due := false })
        (by rw [State.enterPending, appendFifo_eq])]
      simp
    exact ⟨h1.raiseAt _ (by simp [he]), by rw [State.entry_congr (raiseAt_roster _ _ _)]; simp [he]⟩

/-- The condition byte of a poll answer keeps the laws of the roster (R103). -/
theorem State.RosterSound.applyCondition {s : State} {a : Addr} (c : Condition) (h : s.RosterSound)
    (ha : (s.entry a).state ≠ .free) :
    (s.applyCondition a c).RosterSound ∧ ((s.applyCondition a c).entry a).state ≠ .free := by
  unfold State.applyCondition
  split
  · exact ⟨h, ha⟩
  · have h1 : (s.modifyEntry a fun e => { e with condition := c }).RosterSound := h.modifyEntry ha rfl rfl id
    exact ⟨h1.raiseAt _ (by simpa using ha), by rw [State.entry_congr (raiseAt_roster _ _ _)]; simpa using ha⟩

/-- The attention byte of a poll answer keeps the laws of the roster (R104). -/
theorem State.RosterSound.applyAttention {s : State} {a : Addr} (code : Byte) (h : s.RosterSound)
    (ha : (s.entry a).state ≠ .free) : (s.applyAttention a code).RosterSound := by
  unfold State.applyAttention
  dsimp only
  split
  · have h1 := h.raiseAt (a := a) (.attention code) ha
    exact h1.modifyEntry (by rwa [State.entry_congr (raiseAt_roster _ _ _)]) rfl rfl id
  · exact h

/-- An accepted answer to a POLL keeps the laws of the roster (R102). -/
theorem State.RosterSound.pollAnswer {s : State} {a : Addr} (k : Bool) (code : Byte) (c : Condition) (h : s.RosterSound)
    (ha : (s.entry a).state ≠ .free) : (s.pollAnswer a k code c).RosterSound := by
  have h1 : (s.modifyEntry a fun e => { e with due := false }).RosterSound := h.modifyEntry ha rfl rfl (by simp)
  have ha1 : ((s.modifyEntry a fun e => { e with due := false }).entry a).state ≠ .free := by simpa using ha
  unfold State.pollAnswer
  dsimp only
  have h2 : (if (s.entry a).state = .lost then (s.modifyEntry a fun e => { e with due := false }).probeReturn a
      else s.modifyEntry a fun e => { e with due := false }).RosterSound ∧
      ((if (s.entry a).state = .lost then (s.modifyEntry a fun e => { e with due := false }).probeReturn a
      else s.modifyEntry a fun e => { e with due := false }).entry a).state ≠ .free := by
    split
    · exact h1.probeReturn (by simpa)
    · exact ⟨h1, ha1⟩
  generalize (if (s.entry a).state = .lost then _ else _ : State) = u at h2
  have h3 : (u.applyAcknowledge a k).RosterSound ∧ ((u.applyAcknowledge a k).entry a).state ≠ .free := by
    unfold State.applyAcknowledge
    split
    · exact ⟨h2.1.modifyEntry h2.2 rfl rfl id, by simpa using h2.2⟩
    · exact h2
  obtain ⟨h4, ha4⟩ := h3.1.applyCondition c h3.2
  exact h4.applyAttention code ha4

/-- The end of a POLL exchange to an entry that is not FREE keeps the laws of the roster (R102, R105). -/
theorem State.RosterSound.pollEnd {s : State} {a : Addr} (k : Bool) (e : ExchangeEnd) (h : s.RosterSound)
    (ha : (s.entry a).state ≠ .free) : (s.pollEnd a k e).RosterSound := by
  have hfailed : (s.failedPoll a).RosterSound := by
    have h1 : (s.modifyEntry a fun e => { e with due := false }).RosterSound := h.modifyEntry ha rfl rfl (by simp)
    unfold State.failedPoll
    dsimp only
    split
    · exact h1
    · exact h1.addMiss (by simpa using ha)
  unfold State.pollEnd
  split
  · exact h
  split
  · split
    · exact h.pollAnswer k _ _ ha
    · exact h
  · split
    · exact h
    · exact hfailed
  · split
    · exact h
    · exact hfailed
  all_goals exact h

end Sys2Proof.Machine
end

section
/-! PROOF. The laws of the exchange on the line: what an operation must keep of the round, the run and the ON-LINE request
while an exchange is on the line, and what stands when the exchange has ended. -/

namespace Sys2Proof.Machine

/-! ## ON-LINE requests -/

/-- No request is ON-LINE in the second queue that was not in the first, and no more of them are (R118). -/
def OnLineWithin (q q' : List Request) : Prop :=
  q'.countP Request.isOnLine ≤ q.countP Request.isOnLine ∧
    ∀ r ∈ q', r.isOnLine = true → ∃ p ∈ q, p.isOnLine = true ∧ p.address = r.address

theorem OnLineWithin.refl (q : List Request) : OnLineWithin q q := ⟨le_rfl, fun r hr ho => ⟨r, hr, ho, rfl⟩⟩

theorem OnLineWithin.of_eq {q q' : List Request} (h : q' = q) : OnLineWithin q q' := h ▸ .refl q

theorem OnLineWithin.trans {p q r : List Request} (h : OnLineWithin p q) (k : OnLineWithin q r) : OnLineWithin p r := by
  refine ⟨k.1.trans h.1, fun x hx ho => ?_⟩
  obtain ⟨y, hy, hyo, hya⟩ := k.2 x hx ho
  obtain ⟨z, hz, hzo, hza⟩ := h.2 y hy hyo
  exact ⟨z, hz, hzo, hza.trans hya⟩

/-- Requests leave the queue. -/
theorem OnLineWithin.of_sublist {q q' : List Request} (h : q'.Sublist q) : OnLineWithin q q' :=
  ⟨h.countP_le, fun r hr ho => ⟨r, h.subset hr, ho, rfl⟩⟩

/-- A request is changed that is ON-LINE only if it was, for the same address. -/
theorem OnLineWithin.updateFirst (p : Request → Bool) {f : Request → Request} (q : List Request)
    (hf : ∀ r, p r = true → (f r).isOnLine = true → r.isOnLine = true ∧ r.address = (f r).address) :
    OnLineWithin q (updateFirst p f q) := by
  induction q with
  | nil => exact .refl _
  | cons x rest ih =>
    obtain ⟨hc, hm⟩ := ih
    simp only [Machine.updateFirst]
    split
    · rename_i hp
      refine ⟨?_, fun r hr ho => ?_⟩
      · have := hf x hp
        simp only [List.countP_cons]
        split <;> split <;> simp_all
      · rcases List.mem_cons.mp hr with rfl | hr
        · exact ⟨x, by simp, hf x hp ho⟩
        · exact ⟨r, by simp [hr], ho, rfl⟩
    · refine ⟨by simp only [List.countP_cons]; omega, fun r hr ho => ?_⟩
      rcases List.mem_cons.mp hr with rfl | hr
      · exact ⟨r, by simp, ho, rfl⟩
      · obtain ⟨y, hy, h⟩ := hm r hr ho
        exact ⟨y, by simp [hy], h⟩

/-- A verdict makes no request ON-LINE (R132). -/
theorem giveVerdict_onLine (t : Byte) (v : Completion) (s : State) : OnLineWithin s.queue (s.giveVerdict t v).queue := by
  unfold State.giveVerdict
  split
  · exact .refl _
  split
  · exact .refl _
  split
  · exact .refl _
  · exact .of_sublist List.eraseP_sublist
  · split
    · exact .of_sublist List.eraseP_sublist
    · rw [State.modifyRequest_queue, (noteBacklog_queue_ring s).1]
      exact .updateFirst _ _ fun r _ ho => ⟨ho, rfl⟩

/-- The verdicts of one cause make no request ON-LINE. -/
theorem giveVerdicts_onLine (which : Request → Option Completion) (s : State) :
    OnLineWithin s.queue (s.giveVerdicts which).queue := by
  unfold State.giveVerdicts
  generalize s.queue.filterMap _ = l
  induction l generalizing s with
  | nil => exact .refl _
  | cons w rest ih => exact (giveVerdict_onLine w.1 w.2 s).trans (ih _)

/-! ## The round and the requests -/

/-- The round and the run are unchanged, and no request comes ON-LINE. -/
structure SameRun (s t : State) : Prop where
  round : t.round = s.round
  census : t.censusState = s.censusState
  onLine : OnLineWithin s.queue t.queue

theorem SameRun.of_eq {s t : State} (hr : t.round = s.round) (hc : t.censusState = s.censusState)
    (hq : t.queue = s.queue) : SameRun s t := ⟨hr, hc, .of_eq hq⟩

theorem SameRun.refl (s : State) : SameRun s s := .of_eq rfl rfl rfl

theorem SameRun.trans {s t u : State} (h : SameRun s t) (k : SameRun t u) : SameRun s u :=
  ⟨k.round.trans h.round, k.census.trans h.census, h.onLine.trans k.onLine⟩

theorem modifyEntry_sameRun (a : Addr) (f : Entry → Entry) (s : State) : SameRun s (s.modifyEntry a f) := .of_eq rfl rfl rfl

theorem raiseAt_sameRun (a : Addr) (d : EventData) (s : State) : SameRun s (s.raiseAt a d) :=
  .of_eq (by simp) (by simp) (by simp)

theorem giveVerdicts_sameRun (which : Request → Option Completion) (s : State) : SameRun s (s.giveVerdicts which) :=
  ⟨by simp, by simp, giveVerdicts_onLine which s⟩

theorem endNegotiation_sameRun (s : State) : SameRun s s.endNegotiation := .of_eq (by simp) (by simp) (by simp)

theorem appendFifo_sameRun (a : Addr) (s : State) : SameRun s (s.appendFifo a) := by
  rw [appendFifo_eq]
  exact .of_eq rfl rfl rfl

theorem enterPending_sameRun (a : Addr) (s : State) : SameRun s (s.enterPending a) :=
  (modifyEntry_sameRun a _ s).trans (appendFifo_sameRun a _)

theorem enterLost_sameRun (a : Addr) (s : State) : SameRun s (s.enterLost a) :=
  ((modifyEntry_sameRun a _ s).trans (giveVerdicts_sameRun _ _)).trans (raiseAt_sameRun a _ _)

theorem becomeFree_sameRun (a : Addr) (answered : Bool) (s : State) : SameRun s (s.becomeFree a answered) :=
  (raiseAt_sameRun a _ s).trans (.of_eq rfl rfl rfl)

theorem addMiss_sameRun (a : Addr) (s : State) : SameRun s (s.addMiss a) := by
  unfold State.addMiss
  dsimp only
  split
  · exact (modifyEntry_sameRun a _ s).trans (enterLost_sameRun a _)
  · exact modifyEntry_sameRun a _ s

theorem abandonNegotiation_sameRun (s : State) : SameRun s s.abandonNegotiation := by
  rw [abandonNegotiation_eq]
  unfold State.withNegotiationAbandoned
  split <;> exact .of_eq rfl rfl rfl

theorem endNegotiationOf_sameRun (a : Addr) (s : State) : SameRun s (s.endNegotiationOf a) := by
  rw [endNegotiationOf_eq]
  split
  · exact endNegotiation_sameRun s
  · exact .refl s

theorem releaseEntry_sameRun (a : Addr) (s : State) : SameRun s (s.releaseEntry a) :=
  ((giveVerdicts_sameRun _ s).trans (endNegotiationOf_sameRun a _)).trans (.of_eq rfl rfl rfl)

theorem failNegotiation_sameRun (n : Negotiation) (r : RefusalReason) (s : State) : SameRun s (s.failNegotiation n r) :=
  (((modifyEntry_sameRun _ _ s).trans (raiseAt_sameRun _ _ _)).trans (giveVerdicts_sameRun _ _)).trans
    (endNegotiation_sameRun _)

theorem protocolError_sameRun (n : Negotiation) (s : State) : SameRun s (s.protocolError n) := by
  unfold State.protocolError
  split
  · exact .of_eq rfl rfl rfl
  · exact failNegotiation_sameRun _ _ s

theorem resolveNegotiation_sameRun (n : Negotiation) (s : State) : SameRun s (s.resolveNegotiation n) := by
  unfold State.resolveNegotiation
  dsimp only
  split
  · exact failNegotiation_sameRun _ _ s
  · exact (((modifyEntry_sameRun _ _ s).trans (raiseAt_sameRun _ _ _)).trans (giveVerdicts_sameRun _ _)).trans
      (endNegotiation_sameRun _)

theorem pageKept_sameRun (n : Negotiation) (w : PageWord) (s : State) : SameRun s (s.pageKept n w) := by
  unfold State.pageKept
  dsimp only
  split
  · exact (modifyEntry_sameRun _ _ s).trans (resolveNegotiation_sameRun _ _)
  split
  · exact (modifyEntry_sameRun _ _ s).trans (failNegotiation_sameRun _ _ _)
  · exact .of_eq rfl rfl rfl

theorem judgePage_sameRun (n : Negotiation) (w : PageWord) (s : State) : SameRun s (s.judgePage n w) := by
  unfold State.judgePage
  split
  · exact protocolError_sameRun _ s
  split
  · exact protocolError_sameRun _ s
  split
  · exact failNegotiation_sameRun _ _ s
  split
  · exact failNegotiation_sameRun _ _ s
  · exact pageKept_sameRun _ _ s

theorem pageEnd_sameRun (a : Addr) (e : ExchangeEnd) (s : State) : SameRun s (s.pageEnd a e) := by
  unfold State.pageEnd
  split
  · exact .refl s
  split
  · exact .refl s
  split
  · exact abandonNegotiation_sameRun s
  split
  · exact judgePage_sameRun _ _ s
  · exact protocolError_sameRun _ s
  · unfold State.pageWait
    dsimp only
    split
    · exact protocolError_sameRun _ s
    · exact .of_eq rfl rfl rfl
  · exact (enterLost_sameRun a s).trans (endNegotiation_sameRun _)
  · exact abandonNegotiation_sameRun s
  · exact abandonNegotiation_sameRun s
  · exact .refl s

theorem pollAnswer_sameRun (a : Addr) (k : Bool) (code : Byte) (c : Condition) (s : State) :
    SameRun s (s.pollAnswer a k code c) := by
  have hprobe (t : State) : SameRun t (t.probeReturn a) := by
    unfold State.probeReturn
    split
    · exact (modifyEntry_sameRun a _ t).trans (raiseAt_sameRun a _ _)
    · exact (enterPending_sameRun a t).trans (raiseAt_sameRun a _ _)
  have hack (t : State) : SameRun t (t.applyAcknowledge a k) := by
    unfold State.applyAcknowledge
    split
    · exact modifyEntry_sameRun a _ t
    · exact .refl t
  have hcond (t : State) : SameRun t (t.applyCondition a c) := by
    unfold State.applyCondition
    split
    · exact .refl t
    · exact (modifyEntry_sameRun a _ t).trans (raiseAt_sameRun a _ _)
  have hatt (t : State) : SameRun t (t.applyAttention a code) := by
    unfold State.applyAttention
    dsimp only
    split
    · exact (raiseAt_sameRun a _ t).trans (modifyEntry_sameRun a _ _)
    · exact .refl t
  unfold State.pollAnswer
  dsimp only
  refine SameRun.trans ?_ (hatt _)
  refine SameRun.trans ?_ (hcond _)
  refine SameRun.trans ?_ (hack _)
  split
  · exact (modifyEntry_sameRun a _ s).trans (hprobe _)
  · exact modifyEntry_sameRun a _ s

theorem pollEnd_sameRun (a : Addr) (k : Bool) (e : ExchangeEnd) (s : State) : SameRun s (s.pollEnd a k e) := by
  have hfailed : SameRun s (s.failedPoll a) := by
    unfold State.failedPoll
    dsimp only
    split
    · exact modifyEntry_sameRun a _ s
    · exact (modifyEntry_sameRun a _ s).trans (addMiss_sameRun a _)
  unfold State.pollEnd
  split
  · exact .refl s
  split
  · split
    · exact pollAnswer_sameRun _ _ _ _ s
    · exact .refl s
  · split
    · exact .refl s
    · exact hfailed
  · split
    · exact .refl s
    · exact hfailed
  all_goals exact .refl s

theorem releaseEnd_sameRun (a : Addr) (e : ExchangeEnd) (s : State) : SameRun s (s.releaseEnd a e) := by
  unfold State.releaseEnd
  split
  · exact becomeFree_sameRun a _ s
  · exact becomeFree_sameRun a _ s
  · exact becomeFree_sameRun a _ s
  all_goals exact .refl s

/-! ## The end of a request's exchange -/

/-- The ON-LINE request has left the queue or is HELD, and the work and the waiting events are as they were (R118, R131). -/
structure RequestLeft (s t : State) : Prop where
  work : SameWork s t
  stores : t.stores = s.stores
  queue : t.queue = s.queue.eraseP Request.isOnLine ∨
    ∃ q : Request, t.queue = updateFirst Request.isOnLine (fun _ => { q with phase := .held }) s.queue

theorem completeRequest_left (q : Request) (c : Completion) (reason : BitVec 4) (p : List Byte) (s : State) :
    RequestLeft s (s.completeRequest q c reason p) := ⟨completeRequest_sameWork q c reason p s, rfl, .inl rfl⟩

theorem holdOrEnd_left (q : Request) (s : State) : RequestLeft s (s.holdOrEnd q) := by
  unfold State.holdOrEnd
  split
  · exact completeRequest_left _ _ _ _ s
  split
  · exact completeRequest_left _ _ _ _ s
  · exact ⟨modifyRequest_sameWork _ _ s, rfl, .inr ⟨q, rfl⟩⟩

/-- Whatever ends the ON-LINE request's exchange posts its record or holds it; an exhausted end then counts a miss. -/
theorem requestEnd_cases (e : ExchangeEnd) (s : State) {r : Request} (hr : s.onLine? = some r) :
    ∃ t, RequestLeft s t ∧ (s.requestEnd e = t ∨ s.requestEnd e = t.missFor r) := by
  unfold State.requestEnd
  rw [hr]
  cases e with
  | ack payload => exact ⟨_, completeRequest_left _ _ _ _ s, .inl rfl⟩
  | refuse reason => exact ⟨_, completeRequest_left _ _ _ _ s, .inl rfl⟩
  | wait =>
    refine ⟨s.waitRequest r, ?_, .inl rfl⟩
    unfold State.waitRequest
    split
    · exact completeRequest_left _ _ _ _ s
    · exact holdOrEnd_left _ s
  | sent => exact ⟨_, completeRequest_left _ _ _ _ s, .inl rfl⟩
  | exhausted outOfStep => exact ⟨_, completeRequest_left _ _ _ _ s, .inr rfl⟩
  | interrupted => exact ⟨_, holdOrEnd_left _ s, .inl rfl⟩
  | faulted => exact ⟨_, completeRequest_left _ _ _ _ s, .inl rfl⟩

theorem missFor_sameRun (r : Request) (s : State) : SameRun s (s.missFor r) := by
  unfold State.missFor
  split
  · exact .refl s
  split
  · exact .refl s
  · exact addMiss_sameRun _ s

/-- After the end of the ON-LINE request's exchange no request is ON-LINE, and the round is unchanged (R118). -/
theorem requestEnd_onLine (e : ExchangeEnd) (s : State) (h : s.queue.countP Request.isOnLine ≤ 1) :
    (s.requestEnd e).queue.countP Request.isOnLine = 0 ∧ (s.requestEnd e).round = s.round := by
  cases hr : s.onLine? with
  | none =>
    have : s.requestEnd e = s := by unfold State.requestEnd; rw [hr]
    rw [this, List.countP_eq_zero]
    exact ⟨List.find?_eq_none.mp hr, rfl⟩
  | some r =>
    have ho : r.isOnLine = true := List.find?_some hr
    obtain ⟨t, ⟨hw, -, hq⟩, ht⟩ := requestEnd_cases e s hr
    have h0 : t.queue.countP Request.isOnLine = 0 := by
      rcases hq with hq | ⟨q, hq⟩
      · have := countP_eraseP Request.isOnLine Request.isOnLine s.queue r hr
        rw [if_pos ho] at this
        rw [hq]; omega
      · have := countP_updateFirst Request.isOnLine Request.isOnLine (fun _ => { q with phase := .held }) s.queue r hr
        rw [if_pos ho, if_neg (by simp [Request.isOnLine])] at this
        rw [hq]; omega
    rcases ht with ht | ht <;> rw [ht]
    · exact ⟨h0, hw.round⟩
    · have hm := missFor_sameRun r t
      exact ⟨Nat.le_zero.mp (h0 ▸ hm.onLine.1), hm.round.trans hw.round⟩

/-- The end of the ON-LINE request's exchange keeps the laws of the roster, where its address is of no FREE entry. -/
theorem State.RosterSound.requestEnd {s : State} (e : ExchangeEnd) (h : s.RosterSound)
    (hr : ∀ r ∈ s.queue, r.isOnLine = true → ∀ a, r.address = some a → (s.entry a).state ≠ .free) :
    (s.requestEnd e).RosterSound := by
  cases hon : s.onLine? with
  | none =>
    have : s.requestEnd e = s := by unfold State.requestEnd; rw [hon]
    rwa [this]
  | some r =>
    obtain ⟨t, ⟨hw, hst, -⟩, ht⟩ := requestEnd_cases e s hon
    have ht' : t.RosterSound := h.of_eq hw.roster hw.bindings hst hw.fifo hw.negotiation
    rcases ht with ht | ht <;> rw [ht]
    · exact ht'
    · unfold State.missFor
      split
      · exact ht'
      rename_i a ha
      split
      · exact ht'
      · exact ht'.addMiss (by
          rw [State.entry_congr hw.roster]
          exact hr r (List.mem_of_find?_eq_some hon) (List.find?_some hon) a ha)

/-! ## The end of a run -/

/-- The end of a run leaves the roster, the bindings, the stores, the FIFO, the negotiation and the queue (R53, R70). -/
theorem State.RosterSound.endRun {s : State} (o : RunOutcome) (u : UnitNumber) (h : s.RosterSound) :
    (s.endRun o u).RosterSound := by
  rw [endRun_eq]
  exact h.of_eq rfl rfl rfl rfl rfl

theorem endRun_queue (o : RunOutcome) (u : UnitNumber) (s : State) : (s.endRun o u).queue = s.queue := by
  rw [endRun_eq]
  rfl

theorem endRun_round (o : RunOutcome) (u : UnitNumber) (s : State) : (s.endRun o u).round = none := by
  rw [endRun_eq]
  rfl

/-- A round that is over is no longer held, and the roster and the queue are as they were (R53, R55). -/
theorem afterRound_sound {s : State} (h : s.RosterSound) :
    s.afterRound.RosterSound ∧ s.afterRound.round = none ∧ s.afterRound.queue = s.queue := by
  unfold State.afterRound
  split
  · exact ⟨h.endRun _ _, endRun_round _ _ s, endRun_queue _ _ s⟩
  split
  · exact ⟨h.endRun _ _, endRun_round _ _ s, endRun_queue _ _ s⟩
  split
  · exact ⟨h.endRun _ _, endRun_round _ _ s, endRun_queue _ _ s⟩
  · exact ⟨h.of_eq rfl rfl rfl rfl rfl, rfl, rfl⟩

/-- An accepted CLAIM makes no request ON-LINE (R62). -/
theorem claimAccepted_onLine (s : State) : OnLineWithin s.queue s.claimAccepted.queue := by
  unfold State.claimAccepted
  split
  · rw [State.createEntry, appendFifo_eq]
    exact .refl _
  · split
    · exact .refl _
    · unfold State.rejoin
      dsimp only
      rw [raiseAt_queue, appendFifo_eq]
      exact ((giveVerdicts_sameRun _ s).trans (endNegotiationOf_sameRun _ _)).onLine
  · exact .refl _

/-- The end of the census unit's exchange, an accepted WAIT or REFUSE aside, leaves no round in progress and keeps the laws
of the roster (R55, R56, R57, R62). -/
theorem censusEnd_sound {s : State} {e : ExchangeEnd} (h : s.RosterSound) (hr : s.RoundLaw) (ha : s.runActive = true)
    (hw : e ≠ .wait) (hf : ∀ reason, e ≠ .refuse reason) :
    (s.censusEnd e).RosterSound ∧ (s.censusEnd e).round = none ∧ OnLineWithin s.queue (s.censusEnd e).queue := by
  have hline : s.endRunLine.RosterSound ∧ s.endRunLine.round = none ∧ OnLineWithin s.queue s.endRunLine.queue := by
    rw [State.endRunLine, if_pos ha]
    exact ⟨h.endRun _ _, endRun_round _ _ s, .of_eq (endRun_queue _ _ s)⟩
  have hover {t : State} (ht : t.RosterSound) (hq : OnLineWithin s.queue t.queue) :
      t.afterRound.RosterSound ∧ t.afterRound.round = none ∧ OnLineWithin s.queue t.afterRound.queue := by
    obtain ⟨h1, h2, h3⟩ := afterRound_sound ht
    exact ⟨h1, h2, h3 ▸ hq⟩
  unfold State.censusEnd
  cases e with
  | ack payload => exact hover ((h.claimAccepted hr).of_eq rfl rfl rfl rfl rfl) (claimAccepted_onLine s)
  | refuse reason => exact absurd rfl (hf reason)
  | wait => exact absurd rfl hw
  | sent => exact hover (h.of_eq rfl rfl rfl rfl rfl) (.refl _)
  | exhausted outOfStep => exact hover (h.of_eq rfl rfl rfl rfl rfl) (.refl _)
  | interrupted => exact hline
  | faulted => exact hline

/-! ## The laws of the line -/

/-- The laws of the exchange on the line and of its round. -/
structure State.LineSound (s : State) : Prop where
  frame : s.FrameLaw
  source : s.SourceLaw
  onLine : s.OnLineLaw
  round : s.RoundLaw

/-- No exchange is on the line, no round is in progress, and but for a CLEAR no request is ON-LINE. -/
structure State.LineEmpty (s : State) : Prop where
  exchange : s.exchange = none
  round : s.round = none
  atMostOne : s.queue.countP Request.isOnLine ≤ 1
  onLine : s.clearing = false → s.queue.countP Request.isOnLine = 0

/-- Without an exchange and a round the laws of the line speak of the ON-LINE request alone. -/
theorem State.LineEmpty.sound {s : State} (h : s.LineEmpty) : s.LineSound := by
  have hx : ∀ x, s.exchange ≠ some x := fun x => by simp [h.exchange]
  refine ⟨fun x k => absurd k (hx x), ⟨by simp [h.round], fun x k => absurd k (hx x)⟩, ⟨h.atMostOne, fun hc r hr ho => ?_⟩,
    fun u a rejoin k => by simp [h.round] at k⟩
  exact absurd (by simpa [Request.isOnLine] using ho) (List.countP_eq_zero.mp (h.onLine hc) r hr)

/-- An empty line stays empty. -/
theorem State.LineEmpty.keeps {s t : State} (h : s.LineEmpty) (hx : t.exchange = none) (hr : t.round = none)
    (hc : t.clearing = s.clearing) (hq : OnLineWithin s.queue t.queue) : t.LineEmpty :=
  ⟨hx, hr, hq.1.trans h.atMostOne, fun k => Nat.le_zero.mp (h.onLine (hc ▸ k) ▸ hq.1)⟩

/-- The later attempts and marks of an exchange: its source, its frame, its answer and its discard stay, and an
interruption stays taken (R36, R46). -/
structure Exchange.Follows (x y : Exchange) : Prop where
  source : y.source = x.source
  discard : y.discard = x.discard
  address : y.frame.address = x.frame.address
  kind : y.frame.kind = x.frame.kind
  ackFlag : y.frame.ackFlag = x.frame.ackFlag
  shape : y.shape = x.shape
  interrupted : x.interruptTaken = true → y.interruptTaken = true

theorem Exchange.Follows.refl (x : Exchange) : x.Follows x := ⟨rfl, rfl, rfl, rfl, rfl, rfl, id⟩

/-- The same exchange is on the line, or none before and after. -/
def SameExchange (before after : Option Exchange) : Prop :=
  (before = none ∧ after = none) ∨ ∃ x y, before = some x ∧ after = some y ∧ x.Follows y

theorem SameExchange.of_eq {before after : Option Exchange} (h : after = before) : SameExchange before after := by
  subst h
  cases after with
  | none => exact .inl ⟨rfl, rfl⟩
  | some x => exact .inr ⟨x, x, rfl, rfl, .refl x⟩

/-- What keeps the laws of the line while the same exchange stays on it. -/
structure KeepsLine (s t : State) : Prop where
  exchange : SameExchange s.exchange t.exchange
  clearing : t.clearing = s.clearing
  round : t.round = s.round
  run : s.round.isSome = true → s.runActive = true → t.runActive = true
  bindings : t.bindings = s.bindings
  ids : SameIds s t
  attention : ∀ a : Addr, (t.entry a).attention = .held → (s.entry a).attention = .held
  releasing : ∀ a : Addr, (s.entry a).state = .releasing → (t.entry a).state = .releasing
  onLine : OnLineWithin s.queue t.queue

/-- The laws of the line are kept with the exchange. -/
theorem State.LineSound.keeps {s t : State} (h : s.LineSound) (k : KeepsLine s t) : t.LineSound := by
  have hround : t.RoundLaw := by
    intro u a rejoin hr
    rw [k.round] at hr
    obtain ⟨hnew, hold, hb⟩ := h.round u a rejoin hr
    refine ⟨fun hj => ?_, fun hj => ?_, by rw [k.bindings]; exact hb⟩
    · obtain ⟨hf, hu⟩ := hnew hj
      refine ⟨(k.ids.free a).mpr hf, fun b hbf => ?_⟩
      rw [k.ids.unit]
      exact hu b ((k.ids.free b).not.mp hbf)
    · obtain ⟨hf, hu⟩ := hold hj
      exact ⟨(k.ids.free a).not.mpr hf, by rw [k.ids.unit, hu]⟩
  have hcount := k.onLine.1.trans h.onLine.1
  rcases k.exchange with ⟨hs, ht⟩ | ⟨x, y, hs, ht, f⟩
  · refine ⟨fun y hy => by simp [ht] at hy, ⟨fun hr => ?_, fun y hy => by simp [ht] at hy⟩, ⟨hcount, fun hc r hr ho => ?_⟩,
      hround⟩
    · rw [k.round] at hr
      obtain ⟨x, hx, -⟩ := h.source.1 hr
      simp [hs] at hx
    · obtain ⟨p, hp, hpo, -⟩ := k.onLine.2 r hr (by simp [Request.isOnLine, ho])
      obtain ⟨x, hx, -⟩ := h.onLine.2 (k.clearing ▸ hc) p hp (by simpa [Request.isOnLine] using hpo)
      simp [hs] at hx
  obtain ⟨hpage, hpoll, hrel, hfield, hcen, hdis, hint, hack⟩ := h.frame x hs
  obtain ⟨hmine, hfree⟩ := h.source.2 x hs
  refine ⟨fun z hz => ?_, ⟨fun hr => ?_, fun z hz => ?_⟩, ⟨hcount, fun hc r hr ho => ?_⟩, hround⟩
  · obtain rfl : y = z := by simpa [ht] using hz
    rw [f.source, f.kind, f.shape, f.discard, f.ackFlag, f.address, k.clearing]
    exact ⟨hpage, hpoll, hrel, hfield, hcen, hdis, fun hd => f.interrupted (hint hd),
      fun h1 h2 a ha hat => hack h1 h2 a ha (k.attention a hat)⟩
  · rw [k.round] at hr
    obtain ⟨z, hz, hsrc, hd⟩ := h.source.1 hr
    obtain rfl : x = z := by simpa [hs] using hz
    exact ⟨y, ht, f.source.trans hsrc, f.discard.trans hd⟩
  · obtain rfl : y = z := by simpa [ht] using hz
    rw [f.source, f.discard, f.address]
    refine ⟨fun hd => ⟨fun hsrc => ?_, fun hsrc => ?_⟩, fun a ha => (k.ids.free a).not.mpr (hfree a ha)⟩
    · obtain ⟨hrun, hr⟩ := (hmine hd).1 hsrc
      exact ⟨k.run hr hrun, by rw [k.round]; exact hr⟩
    · obtain ⟨a, ha, hra⟩ := (hmine hd).2 hsrc
      exact ⟨a, ha, k.releasing a hra⟩
  · obtain ⟨p, hp, hpo, hpa⟩ := k.onLine.2 r hr (by simp [Request.isOnLine, ho])
    obtain ⟨z, hz, hsrc, ha⟩ := h.onLine.2 (k.clearing ▸ hc) p hp (by simpa [Request.isOnLine] using hpo)
    obtain rfl : x = z := by simpa [hs] using hz
    exact ⟨y, ht, f.source.trans hsrc, f.address.trans (ha.trans hpa)⟩

/-- Nothing but the exchange's attempt and the ON-LINE request's counts is changed. -/
theorem KeepsLine.of_eq {s t : State} (hx : SameExchange s.exchange t.exchange) (hc : t.clearing = s.clearing)
    (hr : t.round = s.round) (hcs : t.censusState = s.censusState) (hb : t.bindings = s.bindings)
    (hro : t.roster = s.roster) (hq : OnLineWithin s.queue t.queue) : KeepsLine s t := by
  refine ⟨hx, hc, hr, fun _ h => by rwa [State.runActive, hcs], hb, .of_roster hro, fun a => ?_, fun a => ?_, hq⟩ <;>
    rw [State.entry_congr hro] <;> exact id

theorem KeepsLine.refl (s : State) : KeepsLine s s := .of_eq (.of_eq rfl) rfl rfl rfl rfl rfl (.refl _)

/-- The line engine and the census are left alone, and the entries keep their identity and what the line needs of them. -/
theorem KeepsLine.of_sameRun {s t : State} (hl : SameLine s t) (hrun : SameRun s t) (hi : SameIds s t)
    (ha : ∀ a : Addr, (t.entry a).attention = .held → (s.entry a).attention = .held)
    (hr : ∀ a : Addr, (s.entry a).state = .releasing → (t.entry a).state = .releasing) : KeepsLine s t :=
  ⟨.of_eq hl.exchange, hl.clearing, hrun.round, fun _ h => by rwa [State.runActive, hrun.census], hl.bindings, hi, ha, hr,
    hrun.onLine⟩

/-- One entry changes. -/
theorem KeepsLine.of_entry {s t : State} {a : Addr} {e : Entry} (hl : SameLine s t) (hrun : SameRun s t)
    (hro : t.roster = (s.setEntry a e).roster) (hf : e.state = .free ↔ (s.entry a).state = .free)
    (hu : e.unit = (s.entry a).unit) (ha : e.attention = .held → (s.entry a).attention = .held)
    (hr : (s.entry a).state = .releasing → e.state = .releasing) : KeepsLine s t := by
  have he (b : Addr) : t.entry b = if b = a then e else s.entry b := by
    rw [State.entry_congr hro, State.entry_setEntry]
  refine .of_sameRun hl hrun ((SameIds.setEntry hf hu).trans (.of_roster hro)) (fun b => ?_) fun b => ?_ <;> rw [he] <;>
    split
  · rename_i hb
    exact hb ▸ ha
  · exact id
  · rename_i hb
    exact hb ▸ hr
  · exact id

/-! ## The end of an exchange -/

/-- The ON-LINE request is of no FREE entry (R17, R118). -/
theorem State.LineSound.onLine_entry {s : State} (h : s.LineSound) (hc : s.clearing = false) {r : Request}
    (hr : r ∈ s.queue) (ho : r.isOnLine = true) {a : Addr} (ha : r.address = some a) : (s.entry a).state ≠ .free := by
  obtain ⟨x, hx, -, hxa⟩ := h.onLine.2 hc r hr (by simpa [Request.isOnLine] using ho)
  exact (h.source.2 x hx).2 a (hxa.trans ha)

/-- An exchange that is neither discarded nor the CLEAR's is on the line outside a CLEAR. -/
theorem State.LineSound.notClearing {s : State} {x : Exchange} (h : s.LineSound) (hx : s.exchange = some x)
    (hd : x.discard = false) (hs : x.source ≠ .clearDismiss) : s.clearing = false := by
  obtain ⟨-, -, -, -, -, hdis, -⟩ := h.frame x hx
  cases hc : s.clearing with
  | false => rfl
  | true => simp [hd, hs, hc] at hdis

/-- No round is in progress while another source, or a discarded exchange, is on the line. -/
theorem State.LineSound.noRound {s : State} {x : Exchange} (h : s.LineSound) (hx : s.exchange = some x)
    (hs : x.source ≠ .census ∨ x.discard = true) : s.round = none := by
  rw [← Option.not_isSome_iff_eq_none]
  intro hr
  obtain ⟨y, hy, hsrc, hd⟩ := h.source.1 hr
  obtain rfl : x = y := by simpa [hx] using hy
  simp [hsrc, hd] at hs

/-- No request is ON-LINE while another source than DISPATCH has the line, but for a CLEAR (R118). -/
theorem State.LineSound.noOnLine {s : State} {x : Exchange} (h : s.LineSound) (hx : s.exchange = some x)
    (hc : s.clearing = false) (hs : x.source ≠ .dispatch) : s.queue.countP Request.isOnLine = 0 := by
  rw [List.countP_eq_zero]
  intro r hr ho
  obtain ⟨y, hy, hsrc, -⟩ := h.onLine.2 hc r hr (by simpa [Request.isOnLine] using ho)
  obtain rfl : x = y := by simpa [hx] using hy
  exact hs hsrc

/-- Every end that a source's exchange can have is handed over with the laws of the roster kept, and leaves the line
empty (R48). -/
theorem handEnd_sound {s : State} {x : Exchange} {e : ExchangeEnd} (hl : s.LineSound) (hr : s.RosterSound)
    (hx : s.exchange = some x) (hd : x.discard = false) (hs : x.source ≠ .clearDismiss)
    (he : x.source = .census → e ≠ .wait ∧ ∀ reason, e ≠ .refuse reason) :
    (({ s with exchange := none } : State).handEnd x e).RosterSound ∧
      (({ s with exchange := none } : State).handEnd x e).LineEmpty := by
  have hc := hl.notClearing hx hd hs
  obtain ⟨hmine, hfree⟩ := hl.source.2 x hx
  have hline := handEnd_sameLine x e { s with exchange := none }
  have h0 : ({ s with exchange := none } : State).RosterSound := hr.of_eq rfl rfl rfl rfl rfl
  have hempty {t : State} (hsl : SameLine { s with exchange := none } t) (hround : t.round = none)
      (hq : t.queue.countP Request.isOnLine = 0) : t.LineEmpty :=
    ⟨hsl.exchange, hround, by omega, fun _ => hq⟩
  have hother {t : State} (hsl : SameLine { s with exchange := none } t) (hns : x.source ≠ .census)
      (hnd : x.source ≠ .dispatch) (hrun : SameRun { s with exchange := none } t) : t.LineEmpty :=
    hempty hsl (hrun.round.trans (hl.noRound hx (.inl hns)))
      (Nat.le_zero.mp ((hl.noOnLine hx hc hnd) ▸ hrun.onLine.1))
  unfold State.handEnd at hline ⊢
  split at hline
  · rename_i a hsrc haddr
    obtain ⟨b, hb, hrel⟩ := (hmine hd).2 hsrc
    obtain rfl : b = a := by simpa [hb] using haddr
    refine ⟨?_, hother hline (by simp [hsrc]) (by simp [hsrc]) (releaseEnd_sameRun _ e _)⟩
    unfold State.releaseEnd
    split
    · exact h0.becomeFree _ hrel
    · exact h0.becomeFree _ hrel
    · exact h0.becomeFree _ hrel
    all_goals exact h0
  · rename_i hsrc haddr
    exact ⟨h0.pageEnd _ e, hother hline (by simp [hsrc]) (by simp [hsrc]) (pageEnd_sameRun _ e _)⟩
  · rename_i hsrc haddr
    exact ⟨h0.pollEnd _ e (hfree _ haddr), hother hline (by simp [hsrc]) (by simp [hsrc]) (pollEnd_sameRun _ _ e _)⟩
  · rename_i hsrc
    obtain ⟨h1, h2, h3⟩ := censusEnd_sound (s := { s with exchange := none }) h0 hl.round ((hmine hd).1 hsrc).1
      (he hsrc).1 (he hsrc).2
    exact ⟨h1, hempty hline h2 (Nat.le_zero.mp (hl.noOnLine hx hc (by simp [hsrc]) ▸ h3.1))⟩
  · rename_i hsrc
    obtain ⟨h1, h2⟩ := requestEnd_onLine e { s with exchange := none } hl.onLine.1
    exact ⟨h0.requestEnd e fun r hr' ho a ha => hl.onLine_entry hc hr' ho ha,
      hempty hline (h2.trans (hl.noRound hx (.inl (by simp [hsrc])))) h1⟩
  all_goals exact ⟨h0, hother hline (by simp_all) (by simp_all) (.refl _)⟩

end Sys2Proof.Machine
end

section
/-! PROOF. The line engine keeps the laws of the roster and of the exchange on the line: the ends of exchanges, faults,
the CLEAR's emptying, attempts and answers. -/

namespace Sys2Proof.Machine

/-- The laws of the roster, of the binding table and of the exchange on the line. -/
structure State.Sound (s : State) : Prop where
  roster : s.RosterSound
  line : s.LineSound

/-- The fields that these laws read are unchanged. -/
structure SameCore (s t : State) : Prop where
  roster : t.roster = s.roster
  bindings : t.bindings = s.bindings
  stores : t.stores = s.stores
  fifo : t.fifo = s.fifo
  negotiation : t.negotiation = s.negotiation
  exchange : t.exchange = s.exchange
  clearing : t.clearing = s.clearing
  round : t.round = s.round
  census : t.censusState = s.censusState
  queue : t.queue = s.queue

theorem SameCore.refl (s : State) : SameCore s s := ⟨rfl, rfl, rfl, rfl, rfl, rfl, rfl, rfl, rfl, rfl⟩

theorem State.RosterSound.of_core {s t : State} (h : s.RosterSound) (k : SameCore s t) : t.RosterSound :=
  h.of_eq k.roster k.bindings k.stores k.fifo k.negotiation

theorem State.LineEmpty.of_core {s t : State} (h : s.LineEmpty) (k : SameCore s t) : t.LineEmpty :=
  h.keeps (k.exchange.trans h.exchange) (k.round.trans h.round) k.clearing (.of_eq k.queue)

/-- Changes of other fields keep the laws. -/
theorem State.Sound.of_core {s t : State} (h : s.Sound) (k : SameCore s t) : t.Sound :=
  ⟨h.roster.of_core k,
    h.line.keeps (.of_eq (.of_eq k.exchange) k.clearing k.round k.census k.bindings k.roster (.of_eq k.queue))⟩

/-- The laws where no exchange is on the line. -/
theorem State.Sound.of_empty {s : State} (h : s.RosterSound) (k : s.LineEmpty) : s.Sound := ⟨h, k.sound⟩

/-! ## The line is freed, and the emptying stage -/

theorem lineFreed_core (s : State) : SameCore s s.lineFreed := by
  unfold State.lineFreed State.settleYield
  split
  · split <;> exact ⟨rfl, rfl, rfl, rfl, rfl, rfl, rfl, rfl, rfl, rfl⟩
  · exact ⟨rfl, rfl, rfl, rfl, rfl, rfl, rfl, rfl, rfl, rfl⟩
  all_goals exact .refl s

/-- The emptying stage leaves every entry FREE and every store empty. -/
theorem finishClear_entry (s : State) (a : Addr) :
    s.finishClear.entry a = Entry.empty ∧ s.finishClear.store a = Store.empty := by
  constructor
  · exact Vector.getElem_replicate a.isLt
  · exact Vector.getElem_replicate a.isLt

/-- The emptying stage keeps the binding table, and with it the laws of the roster (R172). -/
theorem State.RosterSound.finishClear {s : State} (h : s.RosterSound) : s.finishClear.RosterSound := by
  have he (a : Addr) : s.finishClear.entry a = Entry.empty := (finishClear_entry s a).1
  have hst (a : Addr) : s.finishClear.store a = Store.empty := (finishClear_entry s a).2
  have hb : s.finishClear.bindings = s.bindings := (finishClear_sameHost s).bindings
  have hn : s.finishClear.negotiation = none := endNegotiation_negotiation s
  refine ⟨⟨fun a b ha => absurd (by rw [he]; rfl) ha, fun a _ => he a, fun a ha => ?_, ?_, fun i b hi => ⟨fun a ha =>
    absurd (by rw [he]; rfl) ha, fun e hev => ?_⟩⟩, List.nodup_nil, fun a => ?_, fun a => ?_⟩
  · simp [he, Entry.empty] at ha
  · intro i j b c
    rw [hb]
    exact h.rows i j b c
  · simp [hst, Store.empty] at hev
  · simpa [he, Entry.empty] using (show a ∉ s.finishClear.fifo from List.not_mem_nil)
  · simp [he, Entry.empty, hn]

/-- The emptying stage leaves an empty line empty (R172). -/
theorem State.LineEmpty.finishClear {s : State} (h : s.LineEmpty) : s.finishClear.LineEmpty :=
  ⟨(finishClear_line s).2.trans h.exchange, (endNegotiation_round s).trans h.round, Nat.zero_le _, fun _ => rfl⟩

/-- The emptying stage on an empty line keeps the laws. -/
theorem finishClear_sound {s : State} (h : s.RosterSound) (k : s.LineEmpty) : s.finishClear.Sound :=
  .of_empty h.finishClear k.finishClear

/-! ## The end of an exchange, and faults -/

/-- An exchange that ends without being handed over, discarded or the CLEAR's own, leaves the line empty (R171). -/
theorem State.LineSound.dropped {s : State} {x : Exchange} (h : s.LineSound) (hx : s.exchange = some x)
    (hd : x.discard = true ∨ x.source = .clearDismiss) : ({ s with exchange := none } : State).LineEmpty := by
  obtain ⟨-, -, -, -, -, hdis, -⟩ := h.frame x hx
  have hc : s.clearing = true := hdis.mp hd
  refine ⟨rfl, h.noRound hx (hd.symm.imp (fun k => by simp [k]) id), h.onLine.1, fun k => ?_⟩
  exact absurd (hc.symm.trans k) (by simp)

/-- The end of the current exchange keeps the laws (R43 to R48, R171). -/
theorem State.Sound.endExchange {s : State} {e : ExchangeEnd} (h : s.Sound)
    (he : ∀ x, s.exchange = some x → x.source = .census → e ≠ .wait ∧ ∀ reason, e ≠ .refuse reason) :
    (s.endExchange e).Sound := by
  unfold State.endExchange
  split
  · exact h
  rename_i x hx
  dsimp only
  have h0 : ({ s with exchange := none } : State).RosterSound := h.roster.of_eq rfl rfl rfl rfl rfl
  split
  · rename_i hs
    exact finishClear_sound (h0.of_core (lineFreed_core _)) ((h.line.dropped hx (.inr hs)).of_core (lineFreed_core _))
  rename_i hs
  split
  · rename_i hd
    have h1 := h0.of_core (lineFreed_core _)
    have h2 := (h.line.dropped hx (.inl hd)).of_core (lineFreed_core _)
    unfold State.drained
    split
    · exact .of_empty h1 h2
    · exact finishClear_sound h1 h2
  · rename_i hd
    obtain ⟨h1, h2⟩ := handEnd_sound h.line h.roster hx (by simpa using hd) hs (he x hx)
    exact .of_empty (h1.of_core (lineFreed_core _)) (h2.of_core (lineFreed_core _))

/-- An end that is neither WAIT nor REFUSE keeps the laws, whatever the source. -/
theorem State.Sound.endExchange_plain {s : State} {e : ExchangeEnd} (h : s.Sound) (hw : e ≠ .wait)
    (hr : ∀ reason, e ≠ .refuse reason) : (s.endExchange e).Sound := h.endExchange fun _ _ _ => ⟨hw, hr⟩

/-- The waiting work of a line that is lost keeps the laws on an empty line (R166). -/
theorem loseLine_sound {s : State} (h : s.RosterSound) (k : s.LineEmpty) : s.loseLine.RosterSound ∧ s.loseLine.LineEmpty := by
  have h1 : s.endRunLine.RosterSound ∧ s.endRunLine.LineEmpty := by
    unfold State.endRunLine
    split
    · have hl := endRun_sameLine .line 0 s
      exact ⟨h.endRun _ _, k.keeps (hl.exchange.trans k.exchange) (endRun_round _ _ s) hl.clearing
        (.of_eq (endRun_queue _ _ s))⟩
    · exact ⟨h, k⟩
  have hl := abandonNegotiation_sameLine s.endRunLine
  have hr := abandonNegotiation_sameRun s.endRunLine
  exact ⟨h1.1.abandonNegotiation, h1.2.keeps (hl.exchange.trans h1.2.exchange) (hr.round.trans h1.2.round) hl.clearing
    hr.onLine⟩

/-- A fault keeps the laws (R47, R165, R166). -/
theorem State.Sound.lineFault {s : State} (kind : FaultKind) (h : s.Sound) : (s.lineFault kind).Sound := by
  unfold State.lineFault
  split
  · exact h
  rename_i x hx
  dsimp only
  have h0 : ({ s with exchange := none } : State).RosterSound := h.roster.of_eq rfl rfl rfl rfl rfl
  have h1 : (if x.discard = true then ({ s with exchange := none } : State)
      else State.handEnd x .faulted { s with exchange := none }).RosterSound ∧
      (if x.discard = true then ({ s with exchange := none } : State)
      else State.handEnd x .faulted { s with exchange := none }).LineEmpty := by
    split
    · rename_i hd
      exact ⟨h0, h.line.dropped hx (.inl hd)⟩
    · rename_i hd
      by_cases hs : x.source = .clearDismiss
      · have : State.handEnd x .faulted { s with exchange := none } = { s with exchange := none } := by
          simp [State.handEnd, hs]
        rw [this]
        exact ⟨h0, h.line.dropped hx (.inr hs)⟩
      · exact handEnd_sound h.line h.roster hx (by simpa using hd) hs fun _ => ⟨by simp, by simp⟩
  generalize (if x.discard = true then _ else _ : State) = u at h1
  obtain ⟨h2, h3⟩ := loseLine_sound h1.1 h1.2
  have hcore : SameCore u.loseLine
      (State.setCause .fault { u.loseLine with lineState := .fault, faultKind := kind }) :=
    ⟨rfl, rfl, rfl, rfl, rfl, rfl, rfl, rfl, rfl, rfl⟩
  split
  · exact finishClear_sound (h2.of_core hcore) (h3.of_core hcore)
  · exact .of_empty (h2.of_core hcore) (h3.of_core hcore)

/-! ## Attempts -/

/-- A later attempt or mark of the exchange on the line keeps the laws. -/
theorem State.Sound.follow {s : State} {x y : Exchange} (h : s.Sound) (hx : s.exchange = some x) (f : x.Follows y) :
    ({ s with exchange := some y } : State).Sound :=
  ⟨h.roster.of_eq rfl rfl rfl rfl rfl,
    h.line.keeps (.of_eq (.inr ⟨x, y, hx, rfl, f⟩) rfl rfl rfl rfl rfl (.refl _))⟩

/-- A lead-in keeps the laws that its exchange keeps (R26, R36). -/
theorem State.Sound.leadIn {s : State} {x : Exchange} (h : ({ s with exchange := some x } : State).Sound) :
    (s.leadIn x).Sound := by
  have hf : x.Follows (s.exchangeAtLeadIn x) := by
    refine ⟨rfl, rfl, ?_, ?_, ?_, rfl, id⟩ <;> simp only [State.exchangeAtLeadIn] <;> split <;> rfl
  have h1 : ({ s with exchange := some (s.exchangeAtLeadIn x), lineRateInForce := s.lineRate } : State).Sound :=
    (h.follow rfl hf).of_core ⟨rfl, rfl, rfl, rfl, rfl, rfl, rfl, rfl, rfl, rfl⟩
  unfold State.leadIn
  dsimp only
  split
  · refine ⟨h1.roster.of_eq rfl rfl rfl rfl rfl, h1.line.keeps (.of_eq (.of_eq rfl) rfl rfl rfl rfl rfl ?_)⟩
    exact .updateFirst _ _ fun r _ ho => ⟨ho, rfl⟩
  · exact h1

/-- A LINE CHECK keeps the laws that its exchange keeps (R164). -/
theorem State.Sound.lineCheck {s : State} {x : Exchange} (mda : Level)
    (h : ({ s with exchange := some x } : State).Sound) : (s.lineCheck x mda).Sound := by
  cases mda with
  | recessive => exact h.leadIn
  | dominant => exact h.follow (y := { x with phase := .lineCheck }) rfl ⟨rfl, rfl, rfl, rfl, rfl, rfl, id⟩

/-- A failed attempt keeps the laws (R41, R45, R46). -/
theorem State.Sound.attemptFails {s : State} {x : Exchange} (reason : Failure) (h : s.Sound) (hx : s.exchange = some x) :
    (s.attemptFails x reason).Sound := by
  have h1 := h.follow hx (y := { x with lastFailure := some reason }) ⟨rfl, rfl, rfl, rfl, rfl, rfl, id⟩
  unfold State.attemptFails
  dsimp only
  split
  · exact h1.endExchange_plain (by simp) (by simp)
  split
  · exact h.follow hx (y := { x with lastFailure := some reason, phase := .retryGap }) ⟨rfl, rfl, rfl, rfl, rfl, rfl, id⟩
  · exact h1.endExchange_plain (by simp) (by simp)

/-- What an accepted answer sets in an entry leaves its state, its unit number, its due flag and its attention state. -/
theorem answered_keeps (line : LineState) (kind : FrameKind) (answer : Answer) (holdOff : Byte) (e : Entry) :
    (e.answered line kind answer holdOff).state = e.state ∧ (e.answered line kind answer holdOff).unit = e.unit ∧
      (e.answered line kind answer holdOff).due = e.due ∧ (e.answered line kind answer holdOff).attention = e.attention := by
  cases answer <;> exact ⟨rfl, rfl, rfl, rfl⟩

/-- An addressed frame carries its address. -/
theorem addressed_address {f : Frame} {a : Addr} (h : f.addressed = some a) : f.address = some a := by
  unfold Frame.addressed at h
  split at h <;> simp_all

/-- The entry facts of an accepted answer keep the laws (R34, R35). -/
theorem State.Sound.noteAnswer {s : State} {x : Exchange} (answer : Answer) (h : s.Sound) (hx : s.exchange = some x) :
    (s.noteAnswer x.frame answer).Sound := by
  unfold State.noteAnswer
  split
  · exact h
  rename_i a ha
  have hfree := (h.line.source.2 x hx).2 a (addressed_address ha)
  obtain ⟨hst, hu, hd, hat⟩ := answered_keeps s.lineState x.frame.kind answer s.holdOffTime (s.entry a)
  refine ⟨h.roster.modifyEntry hfree hst hu (by rw [hd]; exact id), h.line.keeps ?_⟩
  exact .of_entry (modifyEntry_sameLine a _ s) (modifyEntry_sameRun a _ s) rfl (by rw [hst]) hu (by rw [hat]; exact id)
    (by rw [hst]; exact id)

/-- CENSUS takes no WAIT and no REFUSE (R30): its frames accept none. -/
theorem judged_end {shape : AnswerShape} {toggle : Bool} {wire : List Byte} {tail : Level} {answer : Answer}
    (h : judgeResponse shape toggle wire tail = .ok answer) (hs : shape.acceptsWaitRefuse = false) :
    answer.toEnd ≠ .wait ∧ ∀ reason, answer.toEnd ≠ .refuse reason := by
  have hack : ∃ payload, answer = .ack payload := by
    unfold judgeResponse at h
    dsimp only at h
    split at h
    · simp at h
    split at h
    · simp at h
    split at h
    · simp at h
    split at h
    · rename_i a hshaped
      obtain rfl : a = answer := by simpa using h
      unfold Response.shaped at hshaped
      simp only [hs, Bool.and_false, Bool.false_eq_true, if_false] at hshaped
      repeat' split at hshaped
      all_goals simp_all
      exact ⟨_, hshaped.symm⟩
    · simp at h
  obtain ⟨payload, rfl⟩ := hack
  exact ⟨by simp [Answer.toEnd], by simp [Answer.toEnd]⟩

/-- An accepted answer keeps the laws (R34, R42, R43). -/
theorem State.Sound.acceptAnswer {s : State} {x : Exchange} {wire : List Byte} {tail : Level} {answer : Answer}
    (h : s.Sound) (hx : s.exchange = some x) (hj : judgeResponse x.shape x.sentToggle wire tail = .ok answer) :
    (s.acceptAnswer x answer).Sound := by
  have h1 := h.noteAnswer answer hx
  have hx1 : (s.noteAnswer x.frame answer).exchange = some x := (noteAnswer_sameLine x.frame answer s).exchange.trans hx
  unfold State.acceptAnswer
  dsimp only
  split
  · exact h1.attemptFails _ hx1
  · refine h1.endExchange fun y hy hsrc => ?_
    obtain rfl : x = y := by simpa [hx1] using hy
    obtain ⟨-, -, -, -, hcen, -⟩ := h.line.frame x hx
    exact judged_end hj (hcen hsrc)

/-- The tail of a command frame keeps the laws (R44). -/
theorem State.Sound.commandTail {s : State} {x : Exchange} (h : s.Sound) (hx : s.exchange = some x) :
    (s.commandTail x).Sound := by
  unfold State.commandTail
  split
  · exact h.endExchange_plain (by simp) (by simp)
  · exact h.follow hx (y := { x with phase := .field }) ⟨rfl, rfl, rfl, rfl, rfl, rfl, id⟩
  all_goals exact h.follow hx (y := { x with phase := .reply }) ⟨rfl, rfl, rfl, rfl, rfl, rfl, id⟩

/-- An interruption of the exchange on the line keeps the laws (R46). -/
theorem State.Sound.interrupt {s : State} (h : s.Sound) : s.interrupt.Sound := by
  unfold State.interrupt
  split
  · exact h
  rename_i x hx
  dsimp only
  have h1 := h.follow hx (y := { x with interruptTaken := true }) ⟨rfl, rfl, rfl, rfl, rfl, rfl, fun _ => rfl⟩
  split
  · exact h1
  · exact h1.endExchange_plain (by simp) (by simp)

/-! ## The arbitration field -/

/-- The unit that holds an address, and no other entry, where the roster is sound. -/
theorem holderOf_none {s : State} {u : UnitNumber} (h : s.holderOf u = none) (b : Addr) (hb : (s.entry b).state ≠ .free) :
    (s.entry b).unit ≠ u := by
  have := List.find?_eq_none.mp h b (by simp [Addr.all])
  simpa [hb] using this

/-- The holder of a unit number is an entry that is not FREE and holds it. -/
theorem holderOf_some {s : State} {u : UnitNumber} {a : Addr} (h : s.holderOf u = some a) :
    (s.entry a).state ≠ .free ∧ (s.entry a).unit = u := by
  have := List.find?_some h
  simpa using this

/-- The rows in use. -/
theorem mem_boundRows {s : State} {b : Binding} : b ∈ s.boundRows ↔ ∃ i : Fin 8, s.bindings[i.val] = some b := by
  simp only [State.boundRows, List.mem_filterMap, id, exists_eq_right, Vector.mem_toList_iff, Vector.mem_iff_getElem]
  exact ⟨fun ⟨i, hi, h⟩ => ⟨⟨i, hi⟩, h⟩, fun ⟨i, h⟩ => ⟨i.val, i.isLt, h⟩⟩

/-- The address chosen for a unit that no entry holds is FREE and suits the binding table (R8). -/
theorem newAddress_suits {s : State} {u : UnitNumber} {a : Addr} (h : s.RosterSound) (ha : s.newAddress u = some a)
    (hu : ∀ b : Addr, (s.entry b).state ≠ .free → (s.entry b).unit ≠ u) :
    (s.entry a).state = .free ∧ ∀ i : Fin 8, ∀ r, s.bindings[i.val] = some r → (r.address = a ↔ r.unit = u) := by
  unfold State.newAddress at ha
  split at ha
  · rename_i b hb
    obtain rfl : b.address = a := by simpa using ha
    have hbu : b.unit = u := by simpa using List.find?_some hb
    obtain ⟨i, hi⟩ := mem_boundRows.mp (List.mem_of_find?_eq_some hb)
    refine ⟨?_, fun j r hj => ⟨fun hr => ?_, fun hr => ?_⟩⟩
    · by_contra hf
      exact hu _ hf (((h.held i b hi).1 _ hf).mp rfl |>.trans hbu)
    · obtain rfl := h.rows j i r b hj hi (.inl hr)
      obtain rfl : r = b := by simpa [hj] using hi
      exact hbu
    · obtain rfl := h.rows j i r b hj hi (.inr (hr.trans hbu.symm))
      obtain rfl : r = b := by simpa [hj] using hi
      rfl
  · rename_i hb
    have hsome := List.find?_some ha
    simp only [Bool.and_eq_true, beq_iff_eq, Bool.not_eq_true', State.isBound, List.any_eq_false] at hsome
    obtain ⟨⟨hf, hnb⟩, -⟩ := hsome
    refine ⟨hf, fun i r hi => ⟨fun hr => ?_, fun hr => ?_⟩⟩
    · exact absurd hr (hnb r (mem_boundRows.mpr ⟨i, hi⟩))
    · exact absurd hr (by simpa using List.find?_eq_none.mp hb r (mem_boundRows.mpr ⟨i, hi⟩))

/-- Address assignment keeps the laws of the roster, the round and the queue; the address chosen fits the round's CLAIM (R8,
R10). -/
theorem assignAddress_sound {s : State} (u : UnitNumber) (h : s.RosterSound) :
    (s.assignAddress u).1.RosterSound ∧ SameRun s (s.assignAddress u).1 ∧
      ∀ a rejoin, (s.assignAddress u).2 = some (a, rejoin) →
        ({ (s.assignAddress u).1 with round := some (.claim u a rejoin) } : State).RoundLaw := by
  have hnew {t : State} {a : Addr} {rejoin : Bool} (ht : t.RosterSound)
      (hu : ∀ b : Addr, (t.entry b).state ≠ .free → (t.entry b).unit ≠ u)
      (ha : ((t.newAddress u).map fun a => (a, false)) = some (a, rejoin)) :
      ({ t with round := some (.claim u a rejoin) } : State).RoundLaw := by
    obtain ⟨b, hb, hba⟩ := Option.map_eq_some_iff.mp ha
    obtain ⟨rfl, rfl⟩ : b = a ∧ false = rejoin := by simpa using hba
    obtain ⟨hf, hbind⟩ := newAddress_suits ht hb hu
    intro v c j hround
    obtain ⟨rfl, rfl, rfl⟩ : u = v ∧ b = c ∧ false = j := by simpa using hround
    exact ⟨fun _ => ⟨hf, hu⟩, by simp, hbind⟩
  unfold State.assignAddress
  split
  · rename_i hh
    exact ⟨h, .refl s, fun a rejoin ha => hnew h (holderOf_none hh) ha⟩
  rename_i a hh
  obtain ⟨hf, hu⟩ := holderOf_some hh
  split
  · rename_i hrel
    have ht := h.becomeFree false hrel
    refine ⟨ht, becomeFree_sameRun a false s, fun b rejoin hb => hnew ht (fun c hc => ?_) hb⟩
    have he : (s.becomeFree a false).entry c = if c = a then Entry.empty else s.entry c := by
      rw [← State.entry_setEntry]
      exact State.entry_congr (by simp [State.becomeFree, State.dropFifo]) c
    rw [he] at hc ⊢
    split at hc
    · simp [Entry.empty] at hc
    · rename_i hca
      rw [if_neg hca]
      exact fun k => hca (h.units c a hc hf (k.trans hu.symm))
  · refine ⟨h, .refl s, fun b rejoin hb v c j hround => ?_⟩
    obtain ⟨rfl, rfl⟩ : a = b ∧ true = rejoin := by simpa using hb
    obtain ⟨rfl, rfl, rfl⟩ : u = v ∧ a = c ∧ true = j := by simpa using hround
    exact ⟨by simp, fun _ => ⟨hf, hu⟩, fun i r hi => by rw [eq_comm, (h.held i r hi).1 a hf, eq_comm, show (s.entry a).unit = u from hu]⟩

/-- A run that ends with its field leaves the line empty. -/
theorem closeField_sound {s : State} {after : State → State} (h : (after { s with exchange := none }).RosterSound)
    (k : (after { s with exchange := none }).LineEmpty) : (s.closeField after).Sound :=
  .of_empty (h.of_core (lineFreed_core _)) (k.of_core (lineFreed_core _))

/-- A field that is read keeps the laws (R59 to R61). -/
theorem State.Sound.judgeField {s : State} {x : Exchange} (u : UnitNumber) (check : Byte) (mda : Level) (h : s.Sound)
    (hx : s.exchange = some x) (hf : x.shape = .field) (hi : x.interruptTaken = false) :
    (s.judgeField x u check mda).Sound := by
  obtain ⟨-, -, -, hfield, -, hdis, hint, -⟩ := h.line.frame x hx
  have hsrc := hfield hf
  have hd : x.discard = false := by
    cases hxd : x.discard with
    | false => rfl
    | true => exact absurd (hi.symm.trans (hint hxd)) (by simp)
  have hc := h.line.notClearing hx hd (by simp [hsrc])
  have hon := h.line.noOnLine hx hc (by simp [hsrc])
  obtain ⟨hrun, -⟩ := ((h.line.source.2 x hx).1 hd).1 hsrc
  have hempty {t v : State} (ht : OnLineWithin s.queue t.queue) (hv : v.queue = t.queue) (hvx : v.exchange = none)
      (hvr : v.round = none) : v.LineEmpty := by
    have : v.queue.countP Request.isOnLine = 0 := Nat.le_zero.mp (hon ▸ hv ▸ ht.1)
    exact ⟨hvx, hvr, by omega, fun _ => this⟩
  have hends {t : State} (o : RunOutcome) (w : UnitNumber) (ht : t.RosterSound) (hq : OnLineWithin s.queue t.queue) :
      (t.closeField fun t => t.roundEndsRun o w).Sound := by
    have h0 : ({ t with exchange := none } : State).RosterSound := ht.of_eq rfl rfl rfl rfl rfl
    refine closeField_sound ?_ ?_ <;> unfold State.roundEndsRun <;> split
    · exact h0.endRun _ _
    · exact h0.endRun _ _
    · exact hempty hq (endRun_queue _ _ _) (endRun_sameLine _ _ _).exchange (endRun_round _ _ _)
    · exact hempty hq (endRun_queue _ _ _) (endRun_sameLine _ _ _).exchange (endRun_round _ _ _)
  unfold State.judgeField
  split
  · exact hends _ _ h.roster (.refl _)
  split
  · have h0 : ({ ({ s with exchange := none } : State) with failures := s.failures + 1 } : State).RosterSound :=
      h.roster.of_eq rfl rfl rfl rfl rfl
    obtain ⟨h1, h2, h3⟩ := afterRound_sound h0
    exact closeField_sound h1 (hempty (.refl _) h3 (failRound_sameLine _).exchange h2)
  obtain ⟨h1, h2, h3⟩ := assignAddress_sound u h.roster
  have hl := assignAddress_sameLine u s
  generalize s.assignAddress u = p at h1 h2 h3 hl
  obtain ⟨t, chosen⟩ := p
  dsimp only at h1 h2 h3 hl ⊢
  split
  · exact hends _ _ h1 h2.onLine
  rename_i a rejoin
  have hcl : t.clearing = false := hl.clearing.trans hc
  refine State.Sound.lineCheck mda ⟨h1.of_eq rfl rfl rfl rfl rfl, ⟨fun y hy => ?_, ⟨fun _ => ?_, fun y hy => ?_⟩,
    ⟨h2.onLine.1.trans h.line.onLine.1, fun _ r hr ho => ?_⟩, h3 a rejoin rfl⟩⟩
  · obtain rfl : claimExchange u a t.attemptsAllowed x = y := by simpa using hy
    simp [claimExchange, hsrc, hd, hcl, AnswerShape.acceptsWaitRefuse]
  · exact ⟨_, rfl, hsrc, hd⟩
  · obtain rfl : claimExchange u a t.attemptsAllowed x = y := by simpa using hy
    refine ⟨fun _ => ⟨fun _ => ⟨?_, rfl⟩, fun k => ?_⟩, fun b hb => ?_⟩
    · simpa [State.runActive, h2.census] using hrun
    · simp [claimExchange, hsrc] at k
    · simp [claimExchange, claimFrame] at hb
  · have : t.queue.countP Request.isOnLine = 0 := Nat.le_zero.mp (hon ▸ h2.onLine.1)
    exact absurd (by simp [Request.isOnLine, ho]) (List.countP_eq_zero.mp this r hr)

end Sys2Proof.Machine
end

section
/-! PROOF. Every command and every event keeps the laws of the roster, of the binding table and of the exchange on the
line (O56, O57, O59). -/

namespace Sys2Proof.Machine

/-! ## Grants -/

/-- What an exchange that takes the line brings with it: its frame is its source's, no entry it addresses is FREE, a round
without a CLAIM stands exactly for CENSUS, and the ON-LINE request is its own (R18, R30, R36, R55, R118). -/
structure Opens (s : State) (x : Exchange) : Prop where
  page : x.source = .negotiate → x.frame.kind = .page
  poll : x.source = .sweep → x.frame.kind = .poll
  kindRelease : x.source = .release → x.frame.kind = .release
  field : x.shape = .field → x.source = .census
  census : x.source = .census → x.shape.acceptsWaitRefuse = false
  clear : x.source = .clearDismiss ↔ s.clearing = true
  fresh : x.discard = false
  acknowledge : x.frame.ackFlag = true → ∀ a, x.frame.address = some a → (s.entry a).attention ≠ .held
  round : s.round.isSome = true ↔ x.source = .census
  noClaim : s.claimed = none
  run : x.source = .census → s.runActive = true
  release : x.source = .release → ∃ a, x.frame.address = some a ∧ (s.entry a).state = .releasing
  notFree : ∀ a, x.frame.address = some a → (s.entry a).state ≠ .free
  atMostOne : s.queue.countP Request.isOnLine ≤ 1
  onLine : s.clearing = false → ∀ r ∈ s.queue, r.isOnLine = true → x.source = .dispatch ∧ x.frame.address = r.address

/-- An exchange that takes the line keeps the laws, through its LINE CHECK. -/
theorem Opens.sound {s : State} {x : Exchange} (mda : Level) (h : s.RosterSound) (k : Opens s x) :
    (s.openExchange x mda).Sound := by
  unfold State.openExchange
  refine State.Sound.lineCheck mda ⟨h.of_eq rfl rfl rfl rfl rfl, ⟨fun y hy => ?_, ⟨fun hr => ?_, fun y hy => ?_⟩,
    ⟨k.atMostOne, fun hc r hr ho => ?_⟩, fun u a j hr => ?_⟩⟩
  · obtain rfl : x = y := by simpa using hy
    exact ⟨k.page, k.poll, k.kindRelease, k.field, k.census, by simpa [k.fresh] using k.clear, by simp [k.fresh],
      fun _ => k.acknowledge⟩
  · exact ⟨x, rfl, k.round.mp hr, k.fresh⟩
  · obtain rfl : x = y := by simpa using hy
    exact ⟨fun _ => ⟨fun hs => ⟨k.run hs, k.round.mpr hs⟩, k.release⟩, k.notFree⟩
  · exact ⟨x, rfl, k.onLine hc r hr (by simp [Request.isOnLine, ho])⟩
  · have := k.noClaim
    simp [State.claimed, show s.round = some (.claim u a j) from hr] at this

/-- The oldest ready request comes ON-LINE, alone, and its entry is ACTIVE (R119, R121). -/
theorem startFirst_started {s : State} {r : Request} {rest older queue : List Request}
    (h : s.startFirst older rest = some (r, queue)) (hn : ∀ q ∈ rest, ¬q.isOnLine = true) :
    queue.countP Request.isOnLine ≤ 1 ∧ (∀ q ∈ queue, q.isOnLine = true → r.address = q.address) ∧
      ∀ a, r.address = some a → (s.entry a).state = .active := by
  induction rest generalizing older queue with
  | nil => simp [State.startFirst] at h
  | cons q rest ih =>
    have hrest : ∀ p ∈ rest, ¬p.isOnLine = true := fun p hp => hn p (by simp [hp])
    unfold State.startFirst at h
    split at h
    · rename_i hready
      obtain ⟨rfl, rfl⟩ : q = r ∧ { q with phase := .onLine } :: rest = queue := by simpa using h
      refine ⟨?_, fun p hp ho => ?_, fun a ha => ?_⟩
      · rw [List.countP_cons, List.countP_eq_zero.mpr hrest]
        split <;> omega
      · rcases List.mem_cons.mp hp with rfl | hp
        · rfl
        · exact absurd ho (hrest p hp)
      · simp only [State.requestReady, ha, Bool.and_eq_true, beq_iff_eq] at hready
        exact hready.1.1.2.1.1
    · obtain ⟨⟨p, l⟩, hl, hpl⟩ := Option.map_eq_some_iff.mp h
      obtain ⟨rfl, rfl⟩ : p = r ∧ q :: l = queue := by simpa using hpl
      obtain ⟨h1, h2, h3⟩ := ih hl hrest
      have hq := hn q (by simp)
      refine ⟨by simpa [List.countP_cons, hq] using h1, fun w hw ho => ?_, h3⟩
      rcases List.mem_cons.mp hw with rfl | hw
      · exact absurd ho hq
      · exact h2 w hw ho

/-- An exchange of a source other than CENSUS is opened where no round is in progress. -/
theorem Opens.of_source {s : State} {source : Source} {frame : Frame} {shape : AnswerShape} {allowed : Nat}
    (hc : s.clearing = false) (hr : s.round = none) (hcen : source ≠ .census) (hclr : source ≠ .clearDismiss)
    (hfield : shape ≠ .field) (hpage : source = .negotiate → frame.kind = .page)
    (hpoll : source = .sweep → frame.kind = .poll) (hrel : source = .release → frame.kind = .release)
    (hack : frame.ackFlag = true → ∀ a, frame.address = some a → (s.entry a).attention ≠ .held)
    (hreleasing : source = .release → ∃ a, frame.address = some a ∧ (s.entry a).state = .releasing)
    (hfree : ∀ a, frame.address = some a → (s.entry a).state ≠ .free)
    (hone : s.queue.countP Request.isOnLine ≤ 1)
    (hon : ∀ r ∈ s.queue, r.isOnLine = true → source = .dispatch ∧ frame.address = r.address) :
    Opens s (newExchange source frame shape allowed) :=
  { page := hpage, poll := hpoll, kindRelease := hrel, field := fun h => absurd h hfield, census := fun h => absurd h hcen
    clear := by simp [newExchange, hclr, hc], fresh := rfl, acknowledge := hack
    round := by simp [newExchange, hr, hcen], noClaim := by simp [State.claimed, hr]
    run := fun h => absurd h hcen, release := hreleasing, notFree := hfree, atMostOne := hone, onLine := fun _ => hon }

/-- An exchange of CENSUS is opened with a round that is no CLAIM, by an active run. -/
theorem Opens.of_census {s : State} {kind : FrameKind} {shape : AnswerShape} {allowed : Nat} (hc : s.clearing = false)
    (hr : s.round = some .dismiss ∨ s.round = some .field) (hrun : s.runActive = true)
    (hshape : shape.acceptsWaitRefuse = false) (hno : ∀ r ∈ s.queue, ¬r.isOnLine = true) :
    Opens s (newExchange .census (allCallFrame kind) shape allowed) :=
  { page := nofun, poll := nofun, kindRelease := nofun, field := fun _ => rfl, census := fun _ => hshape
    clear := by simp [newExchange, hc], fresh := rfl, acknowledge := nofun
    round := by rcases hr with hr | hr <;> simp [newExchange, hr]
    noClaim := by rcases hr with hr | hr <;> simp [State.claimed, hr]
    run := fun _ => hrun, release := nofun, notFree := nofun
    atMostOne := (List.countP_eq_zero.mpr hno).le.trans (by omega), onLine := fun _ r hr ho => absurd ho (hno r hr) }

/-- Where the arbiter makes a grant: no exchange is on the line, no CLEAR and no round is in progress and no request is
ON-LINE. -/
structure State.Waits (s : State) : Prop where
  roster : s.RosterSound
  exchange : s.exchange = none
  clearing : s.clearing = false
  round : s.round = none
  noOnLine : ∀ r ∈ s.queue, ¬r.isOnLine = true

theorem State.Sound.waits {s : State} (h : s.Sound) (hx : s.exchange = none) (hc : s.clearing = false) : s.Waits := by
  refine ⟨h.roster, hx, hc, ?_, fun r hr ho => ?_⟩
  · rw [← Option.not_isSome_iff_eq_none]
    intro hr
    obtain ⟨x, hxx, -⟩ := h.line.source.1 hr
    simp [hx] at hxx
  · obtain ⟨x, hxx, -⟩ := h.line.onLine.2 hc r hr (by simpa [Request.isOnLine] using ho)
    simp [hx] at hxx

theorem State.Waits.atMostOne {s : State} (h : s.Waits) : s.queue.countP Request.isOnLine ≤ 1 :=
  (List.countP_eq_zero.mpr h.noOnLine).le.trans (by omega)

/-- A grant to RELEASE keeps the laws (R18). -/
theorem State.Waits.grantRelease {s : State} {a : Addr} (mda : Level) (h : s.Waits) (ha : (s.entry a).state = .releasing) :
    (s.grantRelease a mda).Sound := by
  refine Opens.sound mda (h.roster.of_eq rfl rfl rfl rfl rfl) (.of_source h.clearing h.round (by simp) (by simp) (by simp)
    (by simp) (by simp) (fun _ => rfl) nofun (fun _ => ⟨a, rfl, ha⟩) (fun b hb => ?_) h.atMostOne
    fun r hr ho => absurd ho (h.noOnLine r hr))
  obtain rfl : a = b := by simpa [State.addressedFrame] using hb
  exact fun hf => absurd (ha.symm.trans hf) (by simp)

/-- A grant to CENSUS keeps the laws (R56, R57). -/
theorem State.Waits.grantCensus {s : State} (mda : Level) (h : s.Waits) (hrun : s.runActive = true) :
    (s.grantCensus mda).Sound := by
  unfold State.grantCensus
  split
  · exact Opens.sound mda (h.roster.of_eq rfl rfl rfl rfl rfl) (.of_census h.clearing (.inl rfl) hrun rfl h.noOnLine)
  · exact Opens.sound mda (h.roster.of_eq rfl rfl rfl rfl rfl) (.of_census h.clearing (.inr rfl) hrun rfl h.noOnLine)

/-- The PAGE of a NEGOTIATING entry takes the line (R79). -/
theorem State.Waits.openPage {s : State} {n : Negotiation} (mda : Level) (h : s.Waits)
    (ha : (s.entry n.address).state = .negotiating) : (s.openExchange (s.pageExchange n) mda).Sound := by
  refine Opens.sound mda h.roster (.of_source h.clearing h.round (by simp) (by simp) (by simp)
    (fun _ => rfl) (by simp) (by simp) nofun (by simp) (fun b hb => ?_) h.atMostOne
    fun r hr ho => absurd ho (h.noOnLine r hr))
  obtain rfl : n.address = b := by simpa [State.addressedFrame] using hb
  simp [ha]

/-- A grant to NEGOTIATE keeps the laws (R78, R79). -/
theorem State.Waits.grantNegotiate {s : State} (mda : Level) (h : s.Waits) : (s.grantNegotiate mda).Sound := by
  have h1 : ({ s with passOver := s.passOverAfter, yield := false } : State).Waits :=
    ⟨h.roster.of_eq rfl rfl rfl rfl rfl, h.exchange, h.clearing, h.round, h.noOnLine⟩
  unfold State.grantNegotiate
  dsimp only
  split
  · rename_i n hn
    exact h1.openPage mda (h.roster.negotiating (by simp [State.negotiating, show s.negotiation = some n from hn]))
  · rename_i a rest hn hfifo
    have hk := (fifoLaw_iff s).mp h.roster.fifo
    rw [show s.fifo = a :: rest from hfifo, State.negotiating, show s.negotiation = none from hn] at hk
    have hp : (s.entry a).state = .pending := (hk.2.1 a).mp (by simp)
    have hset : (s.setEntry a { s.entry a with state := .negotiating, due := false, pages := [] }).EntrySound :=
      h.roster.setEntry (by simp [hp]) (by simp) rfl (by simp)
    set t := State.startNegotiation a { s with passOver := s.passOverAfter, yield := false } with ht
    have hroster : t.RosterSound :=
      (hset.of_eq rfl rfl rfl : t.EntrySound).withFifo hk.start (states_setEntry s a _)
        (show s.fifo.tail = rest by simp [show s.fifo = a :: rest from hfifo]) rfl
    refine State.Waits.openPage mda ⟨hroster, h.exchange, h.clearing, h.round, h.noOnLine⟩ ?_
    exact congrArg Entry.state (State.entry_setEntry_self s a _)
  · exact .of_empty h.roster ⟨h.exchange, h.round, h.atMostOne, fun _ => List.countP_eq_zero.mpr h.noOnLine⟩

/-- A grant to SWEEP keeps the laws (R100, R101). -/
theorem State.Waits.grantSweep {s : State} {a : Addr} (mda : Level) (h : s.Waits) (ha : (s.entry a).due = true) :
    (s.grantSweep a mda).Sound := by
  have haddr {b : Addr} (hb : some a = some b) : a = b := by simpa using hb
  refine Opens.sound mda (h.roster.of_eq rfl rfl rfl rfl rfl) (.of_source h.clearing h.round (by simp) (by simp) (by simp)
    (by simp) (fun _ => rfl) (by simp) (fun hk b hb => ?_) (by simp) (fun b hb => ?_) h.atMostOne
    fun r hr ho => absurd ho (h.noOnLine r hr))
  · obtain rfl := haddr hb
    have hrep : (s.entry a).attention = .reported := by simpa [State.addressedFrame] using hk
    exact fun hheld => absurd (hrep.symm.trans hheld) (by simp)
  · obtain rfl := haddr hb
    intro hf
    rcases h.roster.due a ha with k | k <;> exact absurd (hf.symm.trans k) (by simp)

/-- A grant to DISPATCH keeps the laws (R121). -/
theorem State.Waits.grantDispatch {s : State} (mda : Level) (h : s.Waits) : (s.grantDispatch mda).Sound := by
  unfold State.grantDispatch
  split
  · exact .of_empty h.roster ⟨h.exchange, h.round, h.atMostOne, fun _ => List.countP_eq_zero.mpr h.noOnLine⟩
  rename_i r queue hstart
  obtain ⟨hone, hsame, hactive⟩ := startFirst_started hstart h.noOnLine
  have haddr : (s.requestFrame r).address = r.address := by
    unfold State.requestFrame
    split <;> simp [State.addressedFrame, *]
  refine Opens.sound mda (h.roster.of_eq rfl rfl rfl rfl rfl) (.of_source h.clearing h.round (by simp) (by simp) ?_
    (by simp) (by simp) (by simp) (fun hk => ?_) (by simp) (fun b hb => ?_) hone fun q hq ho => ⟨rfl, ?_⟩)
  · unfold State.requestShape
    split <;> simp
  · unfold State.requestFrame at hk
    split at hk <;> simp [State.addressedFrame] at hk
  · exact fun hf => absurd (hf.symm.trans (hactive b (haddr ▸ hb))) (by simp)
  · rw [haddr]
    exact hsame q hq ho

/-- A grant keeps the laws (R49, R50). -/
theorem State.Sound.grant {s : State} (mda : Level) (h : s.Sound) (hx : s.exchange = none) (hc : s.clearing = false) :
    (s.grant mda).Sound := by
  have hcore : SameCore s s.settleYield := by
    unfold State.settleYield
    split <;> exact ⟨rfl, rfl, rfl, rfl, rfl, rfl, rfl, rfl, rfl, rfl⟩
  have hw : s.settleYield.Waits := (h.of_core hcore).waits (hcore.exchange.trans hx) (hcore.clearing.trans hc)
  unfold State.grant
  dsimp only
  generalize s.settleYield = u at hw
  have hcensus : u.grantChoice = some .census → u.runActive = true := by
    intro hg
    have : u.censusReady = true := by
      unfold State.grantChoice at hg
      repeat' split at hg
      all_goals simp_all
    simp only [State.censusReady, Bool.and_eq_true, beq_iff_eq] at this
    simp [State.runActive, this.1.1]
  split
  · split
    · rename_i a ha
      have hp := List.find?_some (p := fun a => (u.entry a).state == .releasing && !(u.entry a).inHoldOff) ha
      simp only [Bool.and_eq_true, beq_iff_eq] at hp
      exact hw.grantRelease mda hp.1
    · exact h
  · rename_i hg
    exact hw.grantCensus mda (hcensus hg)
  · exact hw.grantNegotiate mda
  · split
    · rename_i a ha
      have hp := List.find?_some (p := fun a => (u.entry a).due && !(u.entry a).inHoldOff) ha
      simp only [Bool.and_eq_true] at hp
      exact hw.grantSweep mda hp.1
    · exact h
  · exact hw.grantDispatch mda
  · exact h
  · exact h

/-- The DISMISS of a CLEAR takes the line (R171). -/
theorem State.Sound.clearDismiss {s : State} (mda : Level) (h : s.Sound) (hx : s.exchange = none) (hc : s.clearing = true) :
    (s.openExchange (newExchange .clearDismiss (allCallFrame .dismiss) .noAnswer s.attemptsAllowed) mda).Sound := by
  have hround : s.round = none := by
    rw [← Option.not_isSome_iff_eq_none]
    intro hr
    obtain ⟨x, hxx, -⟩ := h.line.source.1 hr
    simp [hx] at hxx
  exact Opens.sound mda h.roster
    { page := nofun, poll := nofun, kindRelease := nofun, field := nofun, census := nofun
      clear := by simp [newExchange, hc], fresh := rfl, acknowledge := nofun
      round := by simp [newExchange, hround], noClaim := by simp [State.claimed, hround], run := nofun, release := nofun
      notFree := nofun, atMostOne := h.line.onLine.1, onLine := fun k => by simp [hc] at k }

end Sys2Proof.Machine
end

section
/-! PROOF. The host commands and the timers keep the laws of the roster, of the binding table and of the exchange on the
line. -/

namespace Sys2Proof.Machine

/-- The next state of an outcome, if it has one, keeps the laws. -/
def KeepsSound (o : Host.Outcome State Fault Refusal) : Prop := ∀ t, o = .next t → t.Sound

theorem State.Sound.next {s : State} (h : s.Sound) : KeepsSound (.next s) := fun _ ht => Host.Outcome.next.inj ht ▸ h

/-- RESULT and RESULTARG are not read by the laws. -/
theorem State.Sound.answer {s : State} (r : ResultCode) (v : Byte) (h : s.Sound) : (s.answer r v).Sound :=
  h.of_core ⟨rfl, rfl, rfl, rfl, rfl, rfl, rfl, rfl, rfl, rfl⟩

theorem State.Sound.unlessReset {s t : State} (h : s.Sound) (k : t.Sound) : (s.unlessReset t).Sound := by
  unfold State.unlessReset
  split
  · exact h
  · exact k

/-- A command keeps the laws if its effects do where it is taken (R177). -/
theorem State.Sound.command {s effect : State} {refusal : Option ResultCode} {argument : Byte} (h : s.Sound)
    (k : s.clearing = false → refusal = none → effect.Sound) : (s.command refusal effect argument).Sound := by
  unfold State.command
  refine h.unlessReset ?_
  split
  · exact h.answer _ _
  split
  · exact h.answer _ _
  · exact (k (by simpa using ‹¬s.clearing = true›) rfl).answer _ _

/-- A command that is taken has none of the refusals of its rule. -/
theorem firstRefusal_eq_none {l : List (Bool × ResultCode)} (h : firstRefusal l = none) : ∀ p ∈ l, p.1 = false := by
  induction l with
  | nil => simp
  | cons q rest ih =>
    unfold firstRefusal at h
    split at h
    · simp at h
    · rename_i hq
      intro p hp
      rcases List.mem_cons.mp hp with rfl | hp
      · simpa using hq
      · exact ih h p hp

/-! ## Entries that keep what the laws read of them -/

/-- The entries keep their state, unit number and attention state, a due flag is set in ACTIVE and LOST entries alone, and
FREE entries are left as they are. -/
structure SameEntries (s t : State) : Prop where
  state : ∀ a : Addr, (t.entry a).state = (s.entry a).state
  unit : ∀ a : Addr, (t.entry a).unit = (s.entry a).unit
  attention : ∀ a : Addr, (t.entry a).attention = (s.entry a).attention
  due : ∀ a : Addr, (t.entry a).due = true → (s.entry a).due = true ∨ (s.entry a).state = .active ∨ (s.entry a).state = .lost
  free : ∀ a : Addr, (s.entry a).state = .free → t.entry a = s.entry a

/-- The laws are kept where no more than such entry fields change. -/
theorem State.Sound.entries {s t : State} (h : s.Sound) (k : SameEntries s t)
    (hcore : SameCore { s with roster := t.roster } t) : t.Sound := by
  have hids : SameIds s t := ⟨fun a => by rw [k.state], k.unit⟩
  have hstates : t.states = s.states := funext k.state
  have hentry : t.EntrySound := h.roster.of_ids hids hcore.bindings hcore.stores
    (fun a ha => (k.free a (k.state a ▸ ha)).trans (h.roster.free a (k.state a ▸ ha)))
    (fun a ha => by rw [k.state]; exact (k.due a ha).elim (h.roster.due a) id)
  refine ⟨hentry.withFifo ((fifoLaw_iff s).mp h.roster.fifo) hstates hcore.fifo (negotiating_congr hcore.negotiation),
    h.line.keeps ⟨.of_eq hcore.exchange, hcore.clearing, hcore.round, fun _ hr => ?_, hcore.bindings, hids,
      fun a => by rw [k.attention]; exact id, fun a => by rw [k.state]; exact id, .of_eq hcore.queue⟩⟩
  rwa [State.runActive, hcore.census]

/-- The end of a hold-off keeps the laws (R3). -/
theorem State.Sound.endHoldOff {s : State} (a : Addr) (h : s.Sound) : (s.endHoldOff a).Sound := by
  have he (b : Addr) : (s.endHoldOff a).entry b = if b = a then { s.entry a with holdOff := none } else s.entry b :=
    State.entry_setEntry s a b _
  refine h.entries ⟨fun b => ?_, fun b => ?_, fun b => ?_, fun b hb => .inl ?_, fun b hb => ?_⟩
    ⟨rfl, rfl, rfl, rfl, rfl, rfl, rfl, rfl, rfl, rfl⟩
  · rw [he]; split <;> simp [*]
  · rw [he]; split <;> simp [*]
  · rw [he]; split <;> simp [*]
  · rw [he] at hb
    split at hb
    · simpa [*] using hb
    · exact hb
  · rw [he]
    split
    · rename_i hba
      subst hba
      rw [h.roster.free b hb]
      rfl
    · rfl

/-- A change of every entry of the kind that the laws allow. -/
theorem State.Sound.mapEntries {s t : State} {f : Addr → Entry → Entry} (h : s.Sound)
    (hs : ∀ a e, (f a e).state = e.state) (hu : ∀ a e, (f a e).unit = e.unit)
    (hat : ∀ a e, (f a e).attention = e.attention)
    (hd : ∀ a e, (f a e).due = true → e.due = true ∨ e.state = .active ∨ e.state = .lost)
    (hf : ∀ a, f a Entry.empty = Entry.empty) (hcore : SameCore (s.mapEntries f) t) : t.Sound := by
  have he (a : Addr) : t.entry a = f a (s.entry a) :=
    (State.entry_congr hcore.roster a).trans (State.entry_mapEntries s f a)
  refine h.entries ⟨fun a => by rw [he, hs], fun a => by rw [he, hu], fun a => by rw [he, hat],
    fun a ha => hd a _ (he a ▸ ha), fun a ha => by rw [he, h.roster.free a ha, hf]⟩
    ⟨rfl, hcore.bindings, hcore.stores, hcore.fifo, hcore.negotiation, hcore.exchange, hcore.clearing, hcore.round,
      hcore.census, hcore.queue⟩

/-- A sweep tick keeps the laws (R98, R99). -/
theorem State.Sound.tick {s : State} (h : s.Sound) : s.tick.Sound := by
  refine h.mapEntries (f := fun a e => { e with due := e.due || e.marked (s.tickCounter + 1).toNat a }) (fun _ _ => rfl)
    (fun _ _ => rfl) (fun _ _ => rfl) (fun a e he => ?_) (fun _ => rfl)
    ⟨rfl, rfl, rfl, rfl, rfl, rfl, rfl, rfl, rfl, rfl⟩
  rcases Bool.or_eq_true_iff.mp he with he | he
  · exact .inl he
  · unfold Entry.marked at he
    split at he <;> simp_all

/-- A new miss limit keeps the laws (R109). -/
theorem State.Sound.writeMissLimit {s : State} (v : Byte) (h : s.Sound) : (s.writeMissLimit v).Sound := by
  refine h.mapEntries ?_ ?_ ?_ ?_ (fun _ => rfl) ⟨rfl, rfl, rfl, rfl, rfl, rfl, rfl, rfl, rfl, rfl⟩ <;> intro a e <;>
    unfold Entry.underLimit <;> split <;> simp_all

/-- The hold-offs that count down keep the laws (R3). -/
theorem State.Sound.elapseHoldOffs {s : State} (h : s.Sound) : s.elapseHoldOffs.Sound :=
  h.mapEntries (f := fun _ e => { e with holdOff := e.holdOff.bind countDown }) (fun _ _ => rfl) (fun _ _ => rfl)
    (fun _ _ => rfl) (fun _ _ => .inl) (fun _ => rfl)
    ⟨rfl, rfl, rfl, rfl, rfl, rfl, rfl, rfl, rfl, rfl⟩

/-! ## The census -/

/-- No round is in progress unless CENSUS has the line. -/
theorem State.Sound.noRound {s : State} (h : s.Sound) (hx : ∀ x, s.exchange = some x → x.source ≠ .census) : s.round = none := by
  rw [← Option.not_isSome_iff_eq_none]
  intro hr
  obtain ⟨x, hx', hsrc, -⟩ := h.line.source.1 hr
  exact hx x hx' hsrc

/-- A run that ends between its rounds keeps the laws (R64, R67). -/
theorem State.Sound.endRun {s : State} (o : RunOutcome) (u : UnitNumber) (h : s.Sound) (hr : s.round = none) :
    (s.endRun o u).Sound := by
  have hl := endRun_sameLine o u s
  refine ⟨h.roster.endRun o u, h.line.keeps ⟨.of_eq hl.exchange, hl.clearing, (endRun_round o u s).trans hr.symm,
    by simp [hr], hl.bindings, .of_roster ?_, fun a => ?_, fun a => ?_, .of_eq (endRun_queue o u s)⟩⟩
  all_goals have hro : (s.endRun o u).roster = s.roster := by rw [endRun_eq]; rfl
  · exact hro
  · rw [State.entry_congr hro]; exact id
  · rw [State.entry_congr hro]; exact id

/-- A run that starts where none is active keeps the laws (R54, R72). -/
theorem State.Sound.startRun {s : State} (fresh : Bool) (h : s.Sound) (hi : s.runActive = false) :
    (s.startRun fresh).Sound := by
  have hr : s.round = none := by
    rw [← Option.not_isSome_iff_eq_none]
    intro hr
    obtain ⟨x, hx, hsrc, hd⟩ := h.line.source.1 hr
    have := (((h.line.source.2 x hx).1 hd).1 hsrc).1
    simp [hi] at this
  exact ⟨h.roster.of_eq rfl rfl rfl rfl rfl, h.line.keeps ⟨.of_eq rfl, rfl, hr.symm, by simp [hr], rfl, .of_roster rfl, fun _ => id,
    fun _ => id, .refl _⟩⟩

/-- CENSUS STOP keeps the laws (R64). -/
theorem State.Sound.stopRun {s : State} (h : s.Sound) : s.stopRun.Sound := by
  unfold State.stopRun
  split
  · exact h.endRun _ _ ‹_›
  · exact ⟨h.roster.of_eq rfl rfl rfl rfl rfl, h.line.keeps ⟨.of_eq rfl, rfl, rfl, fun _ _ => rfl, rfl, .of_roster rfl,
      fun _ => id, fun _ => id, .refl _⟩⟩
  all_goals exact h

/-! ## RELEASE, RENEGOTIATE and the negotiation -/

/-- A RELEASE of an entry that is not FREE keeps the laws (R16). -/
theorem State.Sound.releaseEntry {s : State} {a : Addr} (h : s.Sound) (ha : (s.entry a).state ≠ .free) :
    (s.releaseEntry a).Sound := by
  have hro : (s.releaseEntry a).roster =
      (s.setEntry a { s.entry a with state := .releasing, attention := .none, due := false }).roster := by
    have h1 : (((s.giveAddressVerdicts a .released).endNegotiationOf a).dropFifo a).roster = s.roster :=
      (endNegotiationOf_tables a _).1.trans (giveVerdicts_roster s _)
    exact congrArg₂ (fun r e => Vector.set r a.val e) h1 (by rw [State.entry_congr h1])
  exact ⟨h.roster.releaseEntry ha, h.line.keeps (.of_entry (releaseEntry_sameLine a s) (releaseEntry_sameRun a s) hro
    (by simp [ha]) rfl (by simp) fun _ => rfl)⟩

/-- An ACTIVE or REFUSED entry that becomes PENDING keeps the laws (R20). -/
theorem State.Sound.enterPending {s : State} {a : Addr} (h : s.Sound)
    (ha : (s.entry a).state = .active ∨ (s.entry a).state = .refused) : (s.enterPending a).Sound := by
  refine ⟨h.roster.enterPending ?_ ?_, h.line.keeps (.of_entry (a := a)
    (e := { s.entry a with state := .pending, due := false }) (enterPending_sameLine a s) (enterPending_sameRun a s)
    (appendFifo_roster _ a) ?_ rfl id ?_)⟩ <;> rcases ha with ha | ha <;> simp [ha]

/-- A negotiation that is abandoned while the exchange on the line goes on keeps the laws (R85). -/
theorem State.Sound.abandonNegotiation {s : State} (h : s.Sound) : s.abandonNegotiation.Sound := by
  refine ⟨h.roster.abandonNegotiation, ?_⟩
  have hl := abandonNegotiation_sameLine s
  have hr := abandonNegotiation_sameRun s
  unfold State.abandonNegotiation at hl hr ⊢
  cases hn : s.negotiation with
  | none => exact h.line
  | some n =>
    simp only [hn] at hl hr
    have ha := h.roster.negotiating (a := n.address) (by simp [State.negotiating, hn])
    refine h.line.keeps (.of_entry (a := n.address)
      (e := { s.entry n.address with state := .pending, due := false, pages := [] }) hl hr ?_ ?_ rfl id ?_)
    · rw [endNegotiation_roster]
      unfold State.prependFifo
      split <;> rfl
    · simp [ha]
    · simp [ha]

/-! ## LINE DISABLE -/

/-- A disable keeps the laws (R85, R160 to R162). -/
theorem State.Sound.disableLine {s : State} (h : s.Sound) : s.disableLine.Sound := by
  have h1 : (if s.onLineOf .census then s else s.endRunLine).Sound := by
    split
    · exact h
    · rename_i hc
      unfold State.endRunLine
      split
      · exact h.endRun _ _ (h.noRound fun x hx hsrc => hc (by simp [State.onLineOf, hx, hsrc]))
      · exact h
  have h2 : s.disableWaiting.Sound := by
    unfold State.disableWaiting
    dsimp only
    split
    · exact h1
    · exact h1.abandonNegotiation
  unfold State.disableLine
  dsimp only
  split
  · exact State.Sound.interrupt (h2.of_core ⟨rfl, rfl, rfl, rfl, rfl, rfl, rfl, rfl, rfl, rfl⟩)
  · exact h2.of_core ⟨rfl, rfl, rfl, rfl, rfl, rfl, rfl, rfl, rfl, rfl⟩

/-! ## Requests -/

/-- The queue takes a request that is not ON-LINE, or loses or changes one that does not become ON-LINE. -/
theorem State.Sound.ofQueue {s t : State} (h : s.Sound) (hq : OnLineWithin s.queue t.queue)
    (hcore : SameCore { s with queue := t.queue } t) : t.Sound :=
  ⟨h.roster.of_eq hcore.roster hcore.bindings hcore.stores hcore.fifo hcore.negotiation,
    h.line.keeps (.of_eq (.of_eq hcore.exchange) hcore.clearing hcore.round hcore.census hcore.bindings hcore.roster hq)⟩

/-- SUBMIT keeps the laws (R115). -/
theorem State.Sound.submitRequest {s : State} (h : s.Sound) : s.submitRequest.Sound := by
  unfold State.submitRequest
  split
  · exact h
  · refine h.ofQueue ⟨?_, fun r hr ho => ?_⟩ ⟨rfl, rfl, rfl, rfl, rfl, rfl, rfl, rfl, rfl, rfl⟩
    · simp [List.countP_append, Request.isOnLine, State.stagedRequest]
    · rcases List.mem_append.mp hr with hr | hr
      · exact ⟨r, hr, ho, rfl⟩
      · obtain rfl := List.mem_singleton.mp hr
        simp [Request.isOnLine, State.stagedRequest] at ho

/-- A verdict keeps the laws (R132). -/
theorem State.Sound.giveVerdict {s : State} (ticket : Byte) (v : Completion) (h : s.Sound) :
    (s.giveVerdict ticket v).Sound :=
  have hw := giveVerdict_sameWork ticket v s
  h.ofQueue (giveVerdict_onLine ticket v s) ⟨hw.roster, hw.bindings, giveVerdict_stores ticket v s, hw.fifo, hw.negotiation,
    hw.exchange, hw.clearing, hw.round, hw.censusState, rfl⟩

/-- ABORT keeps the laws (R135, R136). -/
theorem State.Sound.abortRequest {s : State} (r : Request) (h : s.Sound) : (s.abortRequest r).Sound := by
  have h1 : (s.markAborted r.ticket).Sound :=
    h.ofQueue (.updateFirst _ _ fun q _ ho => ⟨ho, rfl⟩) ⟨rfl, rfl, rfl, rfl, rfl, rfl, rfl, rfl, rfl, rfl⟩
  unfold State.abortRequest
  split
  · exact h1.giveVerdict _ _
  · exact h1.giveVerdict _ _
  · split
    · exact h
    · exact h1.interrupt

/-! ## RETIRE -/

/-- What leaves a store first: it was held there, the rest was held too, and an ATTENTION event only from its own slot. -/
theorem takeFirst_held {st rest : Store} {e : EventRecord} (h : st.takeFirst = some (e, rest)) :
    (∀ f, rest.Holds f → st.Holds f) ∧
      (st.status = some e ∨ st.condition = some e ∨ st.attention = some e) := by
  unfold Store.takeFirst at h
  unfold Store.Holds
  split at h <;> simp only [Option.some.injEq, Prod.mk.injEq, reduceCtorEq] at h <;> obtain ⟨rfl, rfl⟩ := h <;>
    simp_all

/-- The posting of a waiting event keeps the laws (R153, R154): an ATTENTION event is that of an entry that is HELD. -/
theorem State.Sound.postFromStores {s : State} (l : List Addr) (h : s.Sound) (hat : s.AttentionLaw) (hst : s.StoreLaw) :
    (s.postFromStores l).Sound := by
  induction l with
  | nil => exact h
  | cons a rest ih =>
    unfold State.postFromStores
    split
    · exact ih
    rename_i e st htake
    obtain ⟨hsub, hheld⟩ := takeFirst_held htake
    have hset : (s.setStore a st).EntrySound := h.roster.setStore fun f hf => .inl (hsub f hf)
    have h1 : ((s.setStore a st).post (.event e)).Sound := by
      refine ⟨⟨hset.of_eq rfl rfl rfl, h.roster.fifo⟩, h.line.keeps ?_⟩
      exact .of_eq (.of_eq rfl) rfl rfl rfl rfl rfl (.refl _)
    unfold State.attentionPosted
    split
    · rename_i code hcode
      obtain ⟨hs1, hs2, -⟩ := hst a
      have hslot : (s.store a).attention = some e := by
        rcases hheld with k | k | k
        · exact absurd hcode ((hs1 e k).2 code)
        · obtain ⟨c, hc⟩ := hs2 e k
          rw [hc] at hcode
          simp at hcode
        · exact k
      have hfree : (s.entry a).state ≠ .free := by
        intro hf
        have hheldAt := (hat a).1.mp (by simp [hslot])
        rw [h.roster.free a hf] at hheldAt
        simp [Entry.empty] at hheldAt
      refine ⟨h1.roster.modifyEntry hfree rfl rfl id, h1.line.keeps ?_⟩
      exact .of_entry (modifyEntry_sameLine a _ _) (modifyEntry_sameRun a _ _) rfl Iff.rfl rfl (by simp) id
    · exact h1

/-- RETIRE keeps the laws (R143). -/
theorem State.Sound.retireHead {s : State} (h : s.Sound) (hat : s.AttentionLaw) (hst : s.StoreLaw) : s.retireHead.Sound := by
  have h1 : ({ s with ring := s.ring.tail } : State).Sound := h.of_core ⟨rfl, rfl, rfl, rfl, rfl, rfl, rfl, rfl, rfl, rfl⟩
  unfold State.retireHead State.postFirstWaiting
  split
  · exact h1.ofQueue (.of_sublist List.eraseP_sublist) ⟨rfl, rfl, rfl, rfl, rfl, rfl, rfl, rfl, rfl, rfl⟩
  split
  · exact h1.of_core ⟨rfl, rfl, rfl, rfl, rfl, rfl, rfl, rfl, rfl, rfl⟩
  · exact h1.postFromStores _ hat hst

end Sys2Proof.Machine
end

section
/-! PROOF. The binding table, the CLEAR, the reset and the line events keep the laws, and with them every step (O56, O57,
O59). -/

namespace Sys2Proof.Machine

/-! ## BIND and UNBIND -/

/-- The rows of the binding table change, and stay such that entries, events and the round's CLAIM do not stand against
them. -/
theorem State.Sound.withBindings {s : State} {rows : Vector (Option Binding) 8} (h : s.Sound)
    (hrows : ({ s with bindings := rows } : State).BindingRowsLaw)
    (hheld : ({ s with bindings := rows } : State).BindingHeldLaw)
    (hround : ∀ u a rejoin, s.round = some (.claim u a rejoin) →
      ∀ i : Fin 8, ∀ b, rows[i.val] = some b → (b.address = a ↔ b.unit = u)) :
    ({ s with bindings := rows } : State).Sound := by
  refine ⟨⟨⟨h.roster.units, h.roster.free, h.roster.due, hrows, hheld⟩, h.roster.fifo⟩, h.line.frame, h.line.source,
    h.line.onLine, fun u a rejoin hr => ?_⟩
  obtain ⟨hnew, hold, -⟩ := h.line.round u a rejoin hr
  exact ⟨hnew, hold, hround u a rejoin hr⟩

/-- A row is written into the first row that satisfies a test, or no row satisfies it. -/
theorem writeBinding_cases (p : Option Binding → Bool) (row : Option Binding) (s : State) :
    s.writeBinding p row = s ∨ ∃ i : Fin 8, s.writeBinding p row = { s with bindings := s.bindings.set i.val row } := by
  unfold State.writeBinding
  split
  · exact .inl rfl
  · rename_i i _
    exact .inr ⟨i, rfl⟩

/-- A row that becomes unused keeps the laws (R15). -/
theorem State.Sound.freeRow {s : State} (p : Option Binding → Bool) (h : s.Sound) : (s.writeBinding p none).Sound := by
  rcases writeBinding_cases p none s with k | ⟨i, k⟩ <;> rw [k]
  · exact h
  have hold {j : Fin 8} {b : Binding} (hj : (s.bindings.set i.val none)[j.val] = some b) : s.bindings[j.val] = some b := by
    rw [Vector.getElem_set] at hj
    split at hj
    · simp at hj
    · exact hj
  refine h.withBindings (fun j l b c hb hc => h.roster.rows j l b c (hold hb) (hold hc))
    (fun j b hb => h.roster.held j b (hold hb)) fun u a rejoin hr j b hb => ?_
  exact (h.line.round u a rejoin hr).2.2 j b (hold hb)

/-- What a BIND that is taken has checked, where its row does not stand yet (R14, R69). -/
theorem bindRefusal_none {a : Addr} {u : UnitNumber} {s : State} (h : s.bindRefusal a u = none)
    (hnew : ¬s.boundRows.any (fun b => b.address == a && b.unit == u) = true) :
    (∀ b ∈ s.boundRows, b.address ≠ a ∧ b.unit ≠ u) ∧
      (∀ b : Addr, (s.entry b).state ≠ .free → (b = a ↔ (s.entry b).unit = u)) ∧
      (∀ v b rejoin, s.round = some (.claim v b rejoin) → (b = a ↔ v = u)) ∧
      ∀ e, (s.store a).Holds e → e.unit = u := by
  unfold State.bindRefusal at h
  rw [if_neg hnew] at h
  have hp := firstRefusal_eq_none h
  simp only [List.forall_mem_cons] at hp
  obtain ⟨hrow, hheld, -⟩ := hp
  simp only [Bool.or_eq_false_iff, State.heldElsewhere] at hheld
  obtain ⟨⟨hent, hclaim⟩, hstore⟩ := hheld
  refine ⟨fun b hb => ?_, fun b hb => ?_, fun v b rejoin hr => ?_, fun e he => ?_⟩
  · have := List.any_eq_false.mp hrow b hb
    simpa using this
  · have := List.any_eq_false.mp hent b (by simp [Addr.all])
    rw [Bool.not_eq_true, Bool.and_eq_false_iff] at this
    rcases this with k | k
    · simp at k; exact absurd k hb
    · have : (b == a) = ((s.entry b).unit == u) := by simpa using k
      rw [Bool.eq_iff_iff] at this
      simpa using this
  · have hc : s.claimed = some (v, b) := by rw [State.claimed, hr]
    rw [hc] at hclaim
    have : (b == a) = (v == u) := by simpa using hclaim
    rw [Bool.eq_iff_iff] at this
    simpa using this
  · simp only [State.storeOfOther, List.any_cons, List.any_nil, Bool.or_false, Bool.or_eq_false_iff] at hstore
    obtain ⟨h1, h2, h3⟩ := hstore
    rcases he with k | k | k <;> simp_all

/-- A BIND that is taken keeps the laws (R14). -/
theorem State.Sound.writeBind {s : State} {a : Addr} {u : UnitNumber} (h : s.Sound) (hb : s.bindRefusal a u = none) :
    (s.writeBind a u).Sound := by
  unfold State.writeBind
  split
  · exact h
  rename_i hnew
  obtain ⟨hrows, hent, hclaim, hstore⟩ := bindRefusal_none hb hnew
  rcases writeBinding_cases rowUnused (some { address := a, unit := u }) s with k | ⟨i, k⟩ <;> rw [k]
  · exact h
  have hold {j : Fin 8} {b : Binding} (hj : (s.bindings.set i.val (some ⟨a, u⟩))[j.val] = some b) :
      (j = i ∧ b = ⟨a, u⟩) ∨ s.bindings[j.val] = some b := by
    rw [Vector.getElem_set] at hj
    split at hj
    · rename_i hij
      exact .inl ⟨(Fin.ext hij).symm, (Option.some.inj hj).symm⟩
    · exact .inr hj
  have hother {j : Fin 8} {b : Binding} (hj : s.bindings[j.val] = some b) : b.address ≠ a ∧ b.unit ≠ u :=
    hrows b (mem_boundRows.mpr ⟨j, hj⟩)
  refine h.withBindings (fun j l b c hb hc hbc => ?_) (fun j b hb => ?_) fun v c rejoin hr j b hb => ?_
  · rcases hold hb with ⟨rfl, rfl⟩ | kb <;> rcases hold hc with ⟨rfl, rfl⟩ | kc
    · rfl
    · exact absurd hbc (by simp [(hother kc).1.symm, (hother kc).2.symm])
    · exact absurd hbc (by simp [hother kb])
    · exact h.roster.rows j l b c kb kc hbc
  · rcases hold hb with ⟨rfl, rfl⟩ | kb
    · exact ⟨hent, hstore⟩
    · exact h.roster.held j b kb
  · rcases hold hb with ⟨rfl, rfl⟩ | kb
    · rw [eq_comm, hclaim v c rejoin hr, eq_comm]
    · exact (h.line.round v c rejoin hr).2.2 j b kb

/-! ## CLEAR and reset -/

/-- A CLEAR keeps the laws (R170, R171). -/
theorem State.Sound.clearTaken {s : State} (h : s.Sound) (hl : s.LineLaw) : s.clearTaken.Sound := by
  have hroster : ({ s.dropRun with clearing := true } : State).RosterSound := h.roster.of_eq rfl rfl rfl rfl rfl
  have hempty (hn : ¬(s.lineState = .busy ∨ s.lineState = .draining)) :
      ({ s.dropRun with clearing := true } : State).LineEmpty :=
    ⟨Option.not_isSome_iff_eq_none.mp fun k => hn (hl.mp k), rfl, h.line.onLine.1, fun k => nomatch k⟩
  have hmarked (x : Exchange) (hx : s.exchange = some x) :
      ({ s.dropRun with
          clearing := true, exchange := some { x with discard := true, interruptTaken := true } } : State).Sound := by
    obtain ⟨h1, h2, h3, h4, h5, -⟩ := h.line.frame x hx
    refine ⟨h.roster.of_eq rfl rfl rfl rfl rfl, fun y hy => ?_, ⟨nofun, fun y hy => ?_⟩, ⟨h.line.onLine.1, nofun⟩, nofun⟩
    · obtain rfl : { x with discard := true, interruptTaken := true } = y := by simpa using hy
      exact ⟨h1, h2, h3, h4, h5, by simp, fun _ => rfl, (h.line.frame x hx).2.2.2.2.2.2.2⟩
    · obtain rfl : { x with discard := true, interruptTaken := true } = y := by simpa using hy
      exact ⟨nofun, (h.line.source.2 x hx).2⟩
  have hinterrupted : (State.markDiscard { s.dropRun with clearing := true }).interrupt.Sound := by
    unfold State.interrupt
    split
    · rename_i hnone
      have hx : s.exchange = none := by simpa [State.markDiscard, State.dropRun] using hnone
      have : (State.markDiscard { s.dropRun with clearing := true }).LineEmpty := ⟨hnone, rfl, h.line.onLine.1, nofun⟩
      exact .of_empty (hroster.of_eq rfl rfl rfl rfl rfl) this
    · rename_i y hy
      obtain ⟨x, hx, rfl⟩ : ∃ x, s.exchange = some x ∧ { x with discard := true } = y := by
        simpa [State.markDiscard, State.dropRun] using hy
      split
      · exact hmarked x hx
      · exact (hmarked x hx).endExchange_plain (by simp) (by simp)
  unfold State.clearTaken
  dsimp only
  cases hls : s.lineState with
  | busy => exact hinterrupted
  | draining => exact hinterrupted
  | idle => exact .of_empty hroster (hempty (by simp [hls]))
  | off => exact finishClear_sound hroster (hempty (by simp [hls]))
  | fault => exact finishClear_sound hroster (hempty (by simp [hls]))
  | recovering => exact finishClear_sound hroster (hempty (by simp [hls]))

/-- A roster of empty entries and an empty binding table are sound. -/
theorem State.RosterSound.of_blank {s : State} (he : ∀ a : Addr, s.entry a = Entry.empty)
    (hb : ∀ i : Fin 8, s.bindings[i.val] = none) (hf : s.fifo = []) (hn : s.negotiation = none) : s.RosterSound := by
  refine ⟨⟨fun a b ha => absurd (by rw [he]; rfl) ha, fun a _ => he a, fun a ha => ?_, fun i j b c hi => ?_,
    fun i b hi => ?_⟩, ?_, fun a => ?_, fun a => ?_⟩
  · simp [he, Entry.empty] at ha
  · simp [hb] at hi
  · simp [hb] at hi
  · simp [hf]
  · simp [hf, he, Entry.empty]
  · simp [hn, he, Entry.empty]

/-- The state after reset keeps the laws (R173). -/
theorem reset_sound : State.reset.Sound := by
  refine .of_empty (.of_blank (fun a => ?_) (fun i => ?_) rfl rfl) ⟨rfl, rfl, Nat.zero_le _, fun _ => rfl⟩
  · exact Vector.getElem_replicate a.isLt
  · exact Vector.getElem_replicate i.isLt

/-! ## The window -/

/-- The byte that a table takes, the latch and the pointer are not read by the laws (R183). -/
theorem State.Sound.writeTableByte {s : State} (v : Byte) (h : s.Sound) : (s.writeTableByte v).Sound := by
  refine h.of_core ?_
  unfold State.writeTableByte State.advancePointer State.storeByte
  split
  · split <;> split <;> exact ⟨rfl, rfl, rfl, rfl, rfl, rfl, rfl, rfl, rfl, rfl⟩
  · exact .refl s

/-- A plain register is not read by the laws (R184). -/
theorem State.Sound.writePlain {s : State} (r : Register) (v : Byte) (h : s.Sound) : (s.writePlain r v).Sound := by
  refine h.of_core ?_
  cases r <;> exact ⟨rfl, rfl, rfl, rfl, rfl, rfl, rfl, rfl, rfl, rfl⟩

/-! ## Time -/

/-- Half a millisecond keeps the laws (R3, R71, R98). -/
theorem State.Sound.elapse {s : State} (h : s.Sound) : s.elapse.Sound := by
  have htick {t : State} (ht : t.Sound) : t.elapseTick.Sound := by
    unfold State.elapseTick
    split
    · split
      · exact ht.of_core ⟨rfl, rfl, rfl, rfl, rfl, rfl, rfl, rfl, rfl, rfl⟩
      · exact ht.tick
    · exact ht
  have hauto {t : State} (ht : t.Sound) : t.elapseAuto.Sound := by
    unfold State.elapseAuto
    split
    · exact ht
    split
    · rename_i hcount
      split
      · exact ht.of_core ⟨rfl, rfl, rfl, rfl, rfl, rfl, rfl, rfl, rfl, rfl⟩
      · exact ht.startRun _ (by simp [State.autoCounting] at hcount; exact hcount.1.2)
    · exact ht
  exact h.unlessReset (hauto (htick h.elapseHoldOffs))

/-! ## Every command and every event -/

/-- The exchange that an event acts on is on the line, in the phase and the shape that the event asks for. -/
theorem exchangeIn_some {s : State} {p : Exchange → Bool} {x : Exchange} (h : s.exchangeIn p = some x) :
    s.exchange = some x ∧ p x = true := by
  unfold State.exchangeIn at h
  split at h
  · split at h
    · obtain rfl : _ = x := by simpa using h
      exact ⟨‹_›, ‹_›⟩
    · simp at h
  · simp at h

/-- Where the line is neither BUSY nor DRAINING, no exchange is on it. -/
theorem State.LineLaw.noExchange {s : State} (h : s.LineLaw) (hn : s.lineState = .idle) : s.exchange = none :=
  Option.not_isSome_iff_eq_none.mp fun k => by simpa [hn] using h.mp k

section
variable {s : State}

/-- A command that is refused whatever the state keeps the laws. -/
theorem State.Sound.refused (r : ResultCode) (h : s.Sound) : KeepsSound (.next (s.command (some r) s)) :=
  (h.command (by simp)).next

/-- A command whose effects the laws do not read keeps them. -/
theorem State.Sound.commandCore {effect : State} {refusal : Option ResultCode} {argument : Byte} (h : s.Sound)
    (k : SameCore s effect) : KeepsSound (.next (s.command refusal effect argument)) := (h.command fun _ _ => h.of_core k).next

/-- An event whose effects the laws do not read keeps them. -/
theorem State.Sound.resetCore {after : State} (h : s.Sound) (k : SameCore s after) : KeepsSound (.next (s.unlessReset after)) :=
  (h.unlessReset (h.of_core k)).next

theorem execLineEnable_sound (h : s.Sound) : KeepsSound (execLineEnable s) :=
  h.commandCore ⟨rfl, rfl, rfl, rfl, rfl, rfl, rfl, rfl, rfl, rfl⟩

theorem execLineDisable_sound (h : s.Sound) : KeepsSound (execLineDisable s) := (h.command fun _ _ => h.disableLine).next

theorem execLineRecover_sound (h : s.Sound) : KeepsSound (execLineRecover s) :=
  h.commandCore ⟨rfl, rfl, rfl, rfl, rfl, rfl, rfl, rfl, rfl, rfl⟩

theorem execCensusStart_sound (h : s.Sound) : KeepsSound (execCensusStart s) :=
  (h.command fun _ hr => h.startRun _ (firstRefusal_eq_none hr (s.runActive, .censusRunning) (by simp))).next

theorem execCensusStop_sound (h : s.Sound) : KeepsSound (execCensusStop s) := (h.command fun _ _ => h.stopRun).next

theorem execSubmit_sound (h : s.Sound) : KeepsSound (execSubmit s) := (h.command fun _ _ => h.submitRequest).next

theorem execAbort_sound (h : s.Sound) : KeepsSound (execAbort s) := by
  unfold execAbort
  cases s.request? s.args[0] with
  | none => exact h.refused _
  | some r => exact (h.command fun _ _ => h.abortRequest r).next

theorem execRetire_sound (h : s.Sound) (hat : s.AttentionLaw) (hst : s.StoreLaw) : KeepsSound (execRetire s) :=
  (h.command fun _ _ => h.retireHead hat hst).next

theorem execRelease_sound (h : s.Sound) : KeepsSound (execRelease s) := by
  unfold execRelease
  cases s.argAddress with
  | none => exact h.refused _
  | some a =>
    refine (h.command fun _ hr => h.releaseEntry fun hf => ?_).next
    simpa [hf] using firstRefusal_eq_none hr _ (List.mem_singleton.mpr rfl)

theorem execRenegotiate_sound (h : s.Sound) : KeepsSound (execRenegotiate s) := by
  unfold execRenegotiate
  cases s.argAddress with
  | none => exact h.refused _
  | some a =>
    refine (h.command fun _ hr => h.enterPending (a := a) ?_).next
    have := firstRefusal_eq_none hr _ (List.mem_singleton.mpr rfl)
    simpa [imp_iff_not_or, or_comm] using this

theorem execBind_sound (h : s.Sound) : KeepsSound (execBind s) := by
  unfold execBind
  cases s.argAddress with
  | none => exact h.refused _
  | some a =>
    refine (h.command fun _ hr => h.writeBind ?_).next
    split at hr
    · simp at hr
    · exact hr

theorem execUnbind_sound (h : s.Sound) : KeepsSound (execUnbind s) := by
  unfold execUnbind
  cases s.argAddress with
  | none => exact h.refused _
  | some a => exact (h.command fun _ _ => h.freeRow _).next

theorem execCommitOffer_sound (h : s.Sound) : KeepsSound (execCommitOffer s) := by
  refine (h.command fun _ _ => h.of_core ?_).next
  unfold State.commitOffer
  split <;> exact ⟨rfl, rfl, rfl, rfl, rfl, rfl, rfl, rfl, rfl, rfl⟩

theorem execClear_sound (h : s.Sound) (hl : s.LineLaw) : KeepsSound (execClear s) :=
  (h.command fun _ _ => h.clearTaken hl).next

/-- A write of COMMAND keeps the laws, whatever the code (R177). -/
theorem writeCommand_sound (code : Byte) (h : s.Sound) (hl : s.LineLaw) (hat : s.AttentionLaw) (hst : s.StoreLaw) :
    KeepsSound (s.writeCommand code) := by
  unfold State.writeCommand
  split
  · exact execLineEnable_sound h
  · exact execLineDisable_sound h
  · exact execLineRecover_sound h
  · exact execCensusStart_sound h
  · exact execCensusStop_sound h
  · exact execSubmit_sound h
  · exact execAbort_sound h
  · exact execRetire_sound h hat hst
  · exact execRelease_sound h
  · exact execRenegotiate_sound h
  · exact execBind_sound h
  · exact execUnbind_sound h
  · exact execCommitOffer_sound h
  · exact execClear_sound h hl
  · exact (h.unlessReset (h.answer _ _)).next

theorem State.Sound.capture (h : s.Sound) : s.capture.Sound :=
  h.of_core ⟨rfl, rfl, rfl, rfl, rfl, rfl, rfl, rfl, rfl, rfl⟩

theorem execTabselWrite_sound (v : Byte) (h : s.Sound) : KeepsSound (execTabselWrite v s) :=
  h.resetCore ⟨rfl, rfl, rfl, rfl, rfl, rfl, rfl, rfl, rfl, rfl⟩

theorem execTabidxWrite_sound (v : Byte) (h : s.Sound) : KeepsSound (execTabidxWrite v s) :=
  h.resetCore ⟨rfl, rfl, rfl, rfl, rfl, rfl, rfl, rfl, rfl, rfl⟩

theorem execTabdataRead_sound (h : s.Sound) : KeepsSound (execTabdataRead s) := by
  refine State.Sound.next (h.of_core ?_)
  unfold State.advancePointer
  split
  · exact ⟨rfl, rfl, rfl, rfl, rfl, rfl, rfl, rfl, rfl, rfl⟩
  · split <;> exact ⟨rfl, rfl, rfl, rfl, rfl, rfl, rfl, rfl, rfl, rfl⟩

theorem execCauseWrite_sound (v : Byte) (h : s.Sound) : KeepsSound (execCauseWrite v s) :=
  h.resetCore ⟨rfl, rfl, rfl, rfl, rfl, rfl, rfl, rfl, rfl, rfl⟩

theorem execEnableWrite_sound (v : Byte) (h : s.Sound) : KeepsSound (execEnableWrite v s) :=
  h.resetCore ⟨rfl, rfl, rfl, rfl, rfl, rfl, rfl, rfl, rfl, rfl⟩

theorem execSweepivlWrite_sound (v : Byte) (h : s.Sound) : KeepsSound (execSweepivlWrite v s) :=
  h.resetCore ⟨rfl, rfl, rfl, rfl, rfl, rfl, rfl, rfl, rfl, rfl⟩

theorem execAutocensusWrite_sound (v : Byte) (h : s.Sound) : KeepsSound (execAutocensusWrite v s) :=
  h.resetCore ⟨rfl, rfl, rfl, rfl, rfl, rfl, rfl, rfl, rfl, rfl⟩

/-- A write cycle keeps the laws, whatever the register (R174). -/
theorem writeRegister_sound (r : Register) (v : Byte) (h : s.Sound) (hl : s.LineLaw) (hat : s.AttentionLaw)
    (hst : s.StoreLaw) : KeepsSound (s.writeRegister r v) := by
  unfold State.writeRegister
  split
  · exact writeCommand_sound v h hl hat hst
  · exact execTabselWrite_sound v h
  · exact execTabidxWrite_sound v h
  · exact (h.unlessReset (h.writeTableByte v)).next
  · exact execCauseWrite_sound v h
  · exact execEnableWrite_sound v h
  · exact execSweepivlWrite_sound v h
  · exact (h.unlessReset (h.writeMissLimit v)).next
  · exact execAutocensusWrite_sound v h
  all_goals exact (h.unlessReset (h.writePlain _ v)).next

theorem execAutoCensusExpiry_sound (h : s.Sound) : KeepsSound (execAutoCensusExpiry s) := by
  refine (h.unlessReset ?_).next
  split
  · rename_i hc
    exact h.startRun _ (by simp [State.autoCounting] at hc; exact hc.1.1.2)
  · exact h

theorem execHoldOffEnd_sound (n : Nat) (h : s.Sound) : KeepsSound (execHoldOffEnd n s) := by
  refine (h.unlessReset ?_).next
  split
  · exact h
  · exact h.endHoldOff _

theorem execLineGrant_sound (mda : Level) (h : s.Sound) (hl : s.LineLaw) : KeepsSound (execLineGrant mda s) := by
  refine (h.unlessReset ?_).next
  split
  · rename_i hi
    exact h.grant mda (hl.noExchange hi.1) hi.2
  · exact h

theorem execClearDismiss_sound (mda : Level) (h : s.Sound) (hl : s.LineLaw) : KeepsSound (execClearDismiss mda s) := by
  refine (h.unlessReset ?_).next
  split
  · rename_i hi
    exact h.clearDismiss mda (hl.noExchange hi.1) hi.2
  · exact h

/-- An event of the exchange on the line keeps the laws if what it does to the exchange it finds does. -/
theorem State.Sound.onExchange {p : Exchange → Bool} {act : Exchange → State} (h : s.Sound)
    (k : ∀ x, s.exchange = some x → p x = true → (act x).Sound) :
    (s.unlessReset (match s.exchangeIn p with | some x => act x | none => s)).Sound := by
  refine h.unlessReset ?_
  cases hx : s.exchangeIn p with
  | none => exact h
  | some x => exact k x (exchangeIn_some hx).1 (exchangeIn_some hx).2

/-- The exchange on the line is the one it is. -/
theorem State.Sound.self {x : Exchange} (h : s.Sound) (hx : s.exchange = some x) :
    ({ s with exchange := some x } : State).Sound := h.follow hx (.refl x)

theorem execClockFault_sound (h : s.Sound) : KeepsSound (execClockFault s) := by
  refine (h.unlessReset ?_).next
  split
  · exact h.of_core ⟨rfl, rfl, rfl, rfl, rfl, rfl, rfl, rfl, rfl, rfl⟩
  split
  · exact h.lineFault _
  · exact h

theorem execResponseFrame_sound (wire : List Byte) (tail : Level) (h : s.Sound) :
    KeepsSound (execResponseFrame wire tail s) := by
  refine (h.unlessReset ?_).next
  split
  · exact h
  rename_i x hx
  obtain ⟨hx, -⟩ := exchangeIn_some hx
  split
  · rename_i hj
    exact h.acceptAnswer hx hj
  · exact h.attemptFails _ hx

theorem execFieldEnd_sound (u : UnitNumber) (check : Byte) (mda : Level) (h : s.Sound) :
    KeepsSound (execFieldEnd u check mda s) := by
  refine (h.unlessReset ?_).next
  split
  · exact h
  rename_i x hx
  obtain ⟨hx, hp⟩ := exchangeIn_some hx
  split
  · exact h.endExchange_plain (by simp) (by simp)
  · rename_i hi
    simp only [Bool.and_eq_true, beq_iff_eq] at hp
    exact h.judgeField u check mda hx hp.2 (by simpa using hi)

theorem execRecoverySuccess_sound (h : s.Sound) : KeepsSound (execRecoverySuccess s) := by
  refine (h.unlessReset ?_).next
  split
  · exact h.of_core ⟨rfl, rfl, rfl, rfl, rfl, rfl, rfl, rfl, rfl, rfl⟩
  · exact h

theorem execRecoveryTimeout_sound (h : s.Sound) : KeepsSound (execRecoveryTimeout s) := by
  refine (h.unlessReset ?_).next
  split
  · exact h.of_core ⟨rfl, rfl, rfl, rfl, rfl, rfl, rfl, rfl, rfl, rfl⟩
  · exact h

/-- Every command and every event keeps the laws. -/
theorem exec_sound (c : Instr) (h : s.Sound) (hl : s.LineLaw) (hat : s.AttentionLaw) (hst : s.StoreLaw) :
    KeepsSound (exec c s) :=
  match c with
  | .lineEnable => execLineEnable_sound h
  | .lineDisable => execLineDisable_sound h
  | .lineRecover => execLineRecover_sound h
  | .censusStart => execCensusStart_sound h
  | .censusStop => execCensusStop_sound h
  | .submit => execSubmit_sound h
  | .abort => execAbort_sound h
  | .retire => execRetire_sound h hat hst
  | .release => execRelease_sound h
  | .renegotiate => execRenegotiate_sound h
  | .bind => execBind_sound h
  | .unbind => execUnbind_sound h
  | .commitOffer => execCommitOffer_sound h
  | .clear => execClear_sound h hl
  | .badCommand code => writeCommand_sound code h hl hat hst
  | .tabselWrite v => execTabselWrite_sound v h
  | .tabidxWrite v => execTabidxWrite_sound v h
  | .tabdataRead => execTabdataRead_sound h
  | .tabdataWrite v => (h.unlessReset (h.writeTableByte v)).next
  | .causeWrite v => execCauseWrite_sound v h
  | .enableWrite v => execEnableWrite_sound v h
  | .sweepivlWrite v => execSweepivlWrite_sound v h
  | .misslimWrite v => (h.unlessReset (h.writeMissLimit v)).next
  | .autocensusWrite v => execAutocensusWrite_sound v h
  | .registerWrite address v => writeRegister_sound (registerAt address) v h hl hat hst
  | .hardwareReset => (reset_sound.of_core ⟨rfl, rfl, rfl, rfl, rfl, rfl, rfl, rfl, rfl, rfl⟩ : s.hardwareReset.Sound).next
  | .sweepTick => (h.unlessReset (by split <;> [exact h.tick; exact h])).next
  | .autoCensusExpiry => execAutoCensusExpiry_sound h
  | .holdOffEnd n => execHoldOffEnd_sound n h
  | .lineGrant mda => execLineGrant_sound mda h hl
  | .clearDismiss mda => execClearDismiss_sound mda h hl
  | .lineCheckCleared => (h.onExchange fun _ hx _ => (h.self hx).leadIn).next
  | .clearWaitExpiry => (h.onExchange (act := fun _ => s.lineFault .stuck) fun _ _ _ => h.lineFault .stuck).next
  | .contention => (h.onExchange fun _ hx _ => h.attemptFails .contention hx).next
  | .clockFault => execClockFault_sound h
  | .commandSent => (h.onExchange fun _ hx _ => h.commandTail hx).next
  | .replyWindowExpiry => (h.onExchange fun _ hx _ => h.attemptFails .noAnswer hx).next
  | .responseFrame wire tail => execResponseFrame_sound wire tail h
  | .retryGapEnd mda => (h.onExchange fun _ hx _ => (h.self hx).lineCheck mda).next
  | .fieldEnd u check mda => execFieldEnd_sound u check mda h
  | .recoverySuccess => execRecoverySuccess_sound h
  | .recoveryTimeout => execRecoveryTimeout_sound h
  | .resetRelease => (h.of_core ⟨rfl, rfl, rfl, rfl, rfl, rfl, rfl, rfl, rfl, rfl⟩ : ({ s with resetAsserted := false } : State).Sound).next

end

/-- Every step keeps the laws of the roster, of the binding table and of the exchange on the line. -/
theorem step_sound {s t : State} (h : s.Laws) (hs : step s = .next t) : t.Sound := by
  obtain ⟨⟨hline, hframe, hsource, honline, hround⟩, ⟨hfifo, hunit, hfree, -, hdue⟩, ⟨-, -, -, hat, hst⟩, hrows, hheld, -⟩ := h
  have hsound : s.Sound := ⟨⟨⟨hunit, hfree, hdue, hrows, hheld⟩, hfifo⟩, ⟨hframe, hsource, honline, hround⟩⟩
  unfold step at hs
  split at hs
  · exact hsound.elapse.next t hs
  · rename_i c rest _
    have h0 : ({ s with pending := rest } : State).Sound :=
      hsound.of_core ⟨rfl, rfl, rfl, rfl, rfl, rfl, rfl, rfl, rfl, rfl⟩
    exact exec_sound c h0 hline hat hst t hs

/-- Settles O56: the laws of the line are kept with those of the roster, which they need. -/
theorem exchangeLawsKept : Obligations.ExchangeLawsKept := fun _ _ h hs =>
  have ⟨hframe, hsource, honline, hround⟩ := (step_sound h hs).line
  ⟨hframe, hsource, honline, hround⟩

/-- Settles O57: the laws of the roster are part of what every step keeps. -/
theorem rosterLawsKept : Obligations.RosterLawsKept := fun _ _ h hs =>
  have hr := (step_sound h hs).roster
  ⟨hr.fifo, hr.units, hr.free, hr.due⟩

/-- Settles O59: the laws of the binding table are part of what every step keeps. -/
theorem bindingLawsKept : Obligations.BindingLawsKept := fun _ _ h hs =>
  have hr := (step_sound h hs).roster
  ⟨hr.rows, hr.held⟩

end Sys2Proof.Machine
end

section
/-! PROOF. The host's commands on the roster: RELEASE (O23), RENEGOTIATE (O25), BIND (O26), UNBIND (O27), and the end of
hold-offs (O28). -/

namespace Sys2Proof.Machine

/-! ## The address argument and the command mechanism -/

/-- ARG0 names the entry of a line address (R178). -/
theorem argAddress_number {s : State} {a : Addr} (h : s.args[0] = BitVec.ofNat 8 a.number) : s.argAddress = some a := by
  have : (BitVec.ofNat 8 a.number).toNat = a.number := by
    have := a.isLt
    simp only [Addr.number, BitVec.toNat_ofNat]
    omega
  rw [State.argAddress, h, this, ofNumber?_number]

/-- No entry is named by 0 and by 25 and above (R178). -/
theorem argAddress_outside {s : State} (h : s.args[0] = 0 ∨ 24 < s.args[0].toNat) : s.argAddress = none := by
  have hn : ¬(1 ≤ s.args[0].toNat ∧ s.args[0].toNat ≤ 24) := by
    rcases h with h | h
    · simp [h]
    · omega
  rw [State.argAddress, Addr.ofNumber?, dif_neg hn]

/-- A command that meets a refusal changes RESULT and RESULTARG alone (R177). -/
theorem refuses_of_command {s effect : State} {c : Instr} {r : ResultCode} {v : Byte} (h : s.Open)
    (hc : exec c s = .next (s.command (some r) effect v)) : Refuses c s r.code := by
  rw [Refuses, hc, command_refused r effect v h.1 h.2]
  rfl

/-- The first place at which a test holds. -/
theorem find?_finRange {n : Nat} {p : Fin n → Bool} {i : Fin n} (hi : p i = true) (hj : ∀ j : Fin n, j < i → p j = false) :
    (List.finRange n).find? p = some i := by
  rw [List.find?_eq_some_iff_getElem]
  refine ⟨hi, i.val, by simp, by simp, fun j hlt => ?_⟩
  have := hj ⟨j, by omega⟩ hlt
  simpa using this

/-! ## RENEGOTIATE -/

theorem exec_renegotiate_none {s : State} (h : s.argAddress = none) :
    exec .renegotiate s = .next (s.command (some .badRequest) s) := by
  simp [exec, execRenegotiate, h]

theorem exec_renegotiate_some {s : State} {a : Addr} (h : s.argAddress = some a) :
    exec .renegotiate s = .next (s.command (firstRefusal
      [((s.entry a).state != .active && (s.entry a).state != .refused, .notEligible)]) (s.enterPending a)) := by
  simp [exec, execRenegotiate, h]

/-- Entering PENDING changes the entry and the FIFO (R5). -/
theorem enterPending_eq (a : Addr) (s : State) : s.enterPending a = { s with
    roster := s.roster.set a.val { s.entry a with state := .pending, due := false }
    fifo := if a ∈ s.fifo then s.fifo else s.fifo ++ [a] } := by
  rw [State.enterPending, appendFifo_eq, appendFifo_fifo]
  rfl

/-- Settles O25: the check of RENEGOTIATE that the entry meets, or the change of a taken one. -/
theorem renegotiateReturnsToPending : Obligations.RenegotiateReturnsToPending := by
  intro s h
  refine ⟨fun hbad => refuses_of_command h (exec_renegotiate_none (argAddress_outside hbad)), fun a ha =>
    ⟨fun hact href => ?_, fun hst => ?_⟩⟩
  · have hr := exec_renegotiate_some (argAddress_number ha)
    rw [show ((s.entry a).state != .active && (s.entry a).state != .refused) = true by simp [hact, href],
      firstRefusal_holds] at hr
    exact refuses_of_command h hr
  · have hr := exec_renegotiate_some (argAddress_number ha)
    rw [show ((s.entry a).state != .active && (s.entry a).state != .refused) = false by rcases hst with k | k <;> simp [k],
      firstRefusal_passes, firstRefusal, command_taken _ _ h.1 h.2, enterPending_eq] at hr
    exact hr

/-! ## Hold-offs -/

/-- In OFF the timers hold, and the hold-offs count (R3, R71, R98, R163). -/
theorem elapse_off {s : State} (hr : s.resetAsserted = false) (hl : s.lineState = .off) : s.elapse = s.elapseHoldOffs := by
  have ht : s.elapseHoldOffs.elapseTick = s.elapseHoldOffs := by
    rw [State.elapseTick, if_neg]
    simp [State.tickCounting, State.elapseHoldOffs, hl]
  have ha : s.elapseHoldOffs.elapseAuto = s.elapseHoldOffs := by
    unfold State.elapseAuto
    split
    · rfl
    · rw [if_neg]
      simp [State.autoCounting, State.elapseHoldOffs, hl]
  rw [State.elapse, unlessReset_released hr, ht, ha]

/-- Settles O28: the event ends one hold-off, and a lapse of time on a line that is OFF counts down each. -/
theorem holdOffsEnd : Obligations.HoldOffsEnd := by
  refine ⟨fun s a h => ?_, fun s hp h hl => ⟨s.elapseHoldOffs, ?_, rfl, fun a => ?_⟩⟩
  · simp only [exec, execHoldOffEnd, ofNumber?_number, unlessReset_released h]
    rfl
  · rw [step, hp]
    exact congrArg Host.Outcome.next (elapse_off h hl)
  · rw [State.elapseHoldOffs, State.entry_mapEntries]
    cases (s.entry a).holdOff <;> rfl

/-! ## The binding table -/

/-- A test holds of a row in use. -/
theorem any_boundRows {s : State} {p : Binding → Bool} :
    s.boundRows.any p = true ↔ ∃ i : Fin 8, ∃ b, s.bindings[i.val] = some b ∧ p b = true := by
  simp only [List.any_eq_true, mem_boundRows]
  exact ⟨fun ⟨b, ⟨i, hi⟩, hb⟩ => ⟨i, b, hi, hb⟩, fun ⟨i, b, hi, hb⟩ => ⟨b, ⟨i, hi⟩, hb⟩⟩

/-- The content is written into the first row that satisfies the test. -/
theorem writeBinding_first {p : Option Binding → Bool} {row : Option Binding} {s : State} {i : Fin 8}
    (hi : p s.bindings[i.val] = true) (hj : ∀ j : Fin 8, j < i → p s.bindings[j.val] = false) :
    s.writeBinding p row = { s with bindings := s.bindings.set i.val row } := by
  rw [State.writeBinding, find?_finRange (p := fun i : Fin 8 => p s.bindings[i.val]) hi hj]

theorem exec_unbind_none {s : State} (h : s.argAddress = none) :
    exec .unbind s = .next (s.command (some .badRequest) s) := by
  simp [exec, execUnbind, h]

theorem exec_unbind_some {s : State} {a : Addr} (h : s.argAddress = some a) :
    exec .unbind s = .next (s.command (firstRefusal [(!s.isBound a, .noBinding)])
      (s.writeBinding (fun row => row.any fun b => b.address == a) none)) := by
  simp [exec, execUnbind, h]

/-- Settles O27: the row that is freed is the first that holds the address. -/
theorem unbindFreesTheRow : Obligations.UnbindFreesTheRow := by
  refine ⟨fun s h hc => ?_, fun s h => ⟨fun hbad => refuses_of_command h (exec_unbind_none (argAddress_outside hbad)),
    fun a ha => ⟨fun hno => ?_, fun i b hrows hi hb => ?_⟩⟩⟩
  · have (r : Option ResultCode) (effect : State) : s.command r effect = { s with result := 0x02, resultArg := 0 } :=
      command_clearing r effect 0 h hc
    rw [Refuses]
    cases harg : s.argAddress with
    | none => rw [exec_unbind_none harg, this]
    | some a => rw [exec_unbind_some harg, this]
  · have hnb : s.isBound a = false := by
      rw [Bool.eq_false_iff, Ne, State.isBound, any_boundRows]
      rintro ⟨i, b, hi, hb⟩
      exact hno i b hi (by simpa using hb)
    have hr := exec_unbind_some (argAddress_number ha)
    rw [hnb] at hr
    exact refuses_of_command h hr
  · have hbound : s.isBound a = true := any_boundRows.mpr ⟨i, b, hi, by simpa using hb⟩
    have hfirst (j : Fin 8) (hj : j < i) : (s.bindings[j.val].any fun b => b.address == a) = false := by
      cases hc : s.bindings[j.val] with
      | none => rfl
      | some c =>
        refine beq_eq_false_iff_ne.mpr fun hca => ?_
        exact absurd (hrows j i c b hc hi (.inl (hca.trans hb.symm))) (by omega)
    have hr := exec_unbind_some (argAddress_number ha)
    rw [hbound, Bool.not_true, firstRefusal_passes, firstRefusal, command_taken _ _ h.1 h.2,
      writeBinding_first (i := i) (by simp [hi, hb]) hfirst] at hr
    refine ⟨_, hr, rfl, fun j c hj => ?_⟩
    replace hj : (s.bindings.set i.val none)[j.val] = some c := hj
    rw [Vector.getElem_set] at hj
    split at hj
    · simp at hj
    · rename_i hij
      have hne : j ≠ i := fun k => hij (by rw [k])
      exact ⟨fun k => hne (hrows j i c b hj hi (.inl (k.trans hb.symm))), fun k => hne (hrows j i c b hj hi (.inr k))⟩

theorem exec_bind_none {s : State} (h : s.argAddress = none) :
    exec .bind s = .next (s.command (some .badRequest) s) := by
  simp [exec, execBind, h]

theorem exec_bind_some {s : State} {a : Addr} (h : s.argAddress = some a) :
    exec .bind s = .next (s.command
      (if s.argUnit = Config.allOnes then some .badRequest else s.bindRefusal a s.argUnit) (s.writeBind a s.argUnit)) := by
  simp [exec, execBind, h]

/-- A row holds the address with the unit number. -/
theorem any_boundRows_both {s : State} {a : Addr} {u : UnitNumber} :
    s.boundRows.any (fun b => b.address == a && b.unit == u) = true ↔
      ∃ i : Fin 8, s.bindings[i.val] = some { address := a, unit := u } := by
  rw [any_boundRows]
  constructor
  · rintro ⟨i, ⟨b, v⟩, hi, hb⟩
    obtain ⟨rfl, rfl⟩ : b = a ∧ v = u := by simpa using hb
    exact ⟨i, hi⟩
  · rintro ⟨i, hi⟩
    exact ⟨i, _, hi, by simp⟩

/-- A row holds the address or the unit number. -/
theorem any_boundRows_half {s : State} {a : Addr} {u : UnitNumber} :
    s.boundRows.any (fun b => b.address == a || b.unit == u) = true ↔
      ∃ i : Fin 8, ∃ b, s.bindings[i.val] = some b ∧ (b.address = a ∨ b.unit = u) := by
  rw [any_boundRows]
  simp only [Bool.or_eq_true, beq_iff_eq]

/-- An entry or the round's CLAIM stands against a binding (R14 step 5, R69). -/
theorem heldElsewhere_iff {s : State} {a : Addr} {u : UnitNumber} :
    s.heldElsewhere a u = true ↔
      (∃ b : Addr, (s.entry b).state ≠ .free ∧ ((b = a ∧ (s.entry b).unit ≠ u) ∨ (b ≠ a ∧ (s.entry b).unit = u))) ∨
        ∃ v b rejoin, s.round = some (.claim v b rejoin) ∧ ((b = a ∧ v ≠ u) ∨ (b ≠ a ∧ v = u)) := by
  have hne (b : Addr) (v : UnitNumber) : ((b == a) != (v == u)) = true ↔ (b = a ∧ v ≠ u) ∨ (b ≠ a ∧ v = u) := by
    by_cases hp : b = a <;> by_cases hq : v = u <;> simp [hp, hq]
  unfold State.heldElsewhere State.claimed
  rw [Bool.or_eq_true_iff]
  refine or_congr ?_ ?_
  · simp only [List.any_eq_true, Addr.all, List.mem_finRange, true_and, Bool.and_eq_true, hne]
    exact exists_congr fun b => and_congr_left' bne_iff_ne
  · cases s.round with
    | none => simp
    | some r =>
      cases r with
      | dismiss => simp
      | field => simp
      | claim v b rejoin => simpa using hne b v

/-- An event of another unit waits in the address's store (R14 step 5). -/
theorem storeOfOther_iff {s : State} {a : Addr} {u : UnitNumber} :
    s.storeOfOther a u = true ↔ ∃ e, e.unit ≠ u ∧ (s.store a).Holds e := by
  unfold State.storeOfOther Store.Holds
  simp only [List.any_cons, List.any_nil, Bool.or_false, Bool.or_eq_true_iff]
  have hslot (slot : Option EventRecord) :
      (match slot with | none => false | some e => e.unit != u) = true ↔ ∃ e, e.unit ≠ u ∧ slot = some e := by
    cases slot <;> simp
  constructor
  · rintro (h | h | h) <;> obtain ⟨e, hu, he⟩ := (hslot _).mp h
    · exact ⟨e, hu, .inl he⟩
    · exact ⟨e, hu, .inr (.inl he)⟩
    · exact ⟨e, hu, .inr (.inr he)⟩
  · rintro ⟨e, hu, he | he | he⟩
    · exact .inl ((hslot _).mpr ⟨e, hu, he⟩)
    · exact .inr (.inl ((hslot _).mpr ⟨e, hu, he⟩))
    · exact .inr (.inr ((hslot _).mpr ⟨e, hu, he⟩))

/-- Every row is in use. -/
theorem allRowsUsed_iff {s : State} :
    s.bindings.toList.all (fun row => !rowUnused row) = true ↔ ∀ i : Fin 8, s.bindings[i.val] ≠ none := by
  simp only [List.all_eq_true, Vector.mem_toList_iff, rowUnused, Bool.not_eq_true', Option.isNone_eq_false_iff,
    Option.isSome_iff_ne_none]
  constructor
  · exact fun h i => h _ (Vector.getElem_mem i.isLt)
  · intro h row hrow
    obtain ⟨i, hi, rfl⟩ := Vector.mem_iff_getElem.mp hrow
    exact h ⟨i, hi⟩

/-- Settles O26: each check of BIND is the property that the statement names. -/
theorem bindChecksAndWrites : Obligations.BindChecksAndWrites := by
  intro s h u
  refine ⟨fun hbad => ?_, fun a ha hu => ?_⟩
  · cases harg : s.argAddress with
    | none => exact refuses_of_command h (exec_bind_none harg)
    | some a =>
      have hall : s.argUnit = Config.allOnes := by
        rcases hbad with k | k | k
        · simp [argAddress_outside (.inl k)] at harg
        · simp [argAddress_outside (.inr k)] at harg
        · exact k
      have hr := exec_bind_some harg
      rw [if_pos hall] at hr
      exact refuses_of_command h hr
  have hr := exec_bind_some (argAddress_number ha)
  rw [if_neg (show s.argUnit ≠ Config.allOnes from hu), show s.argUnit = u from rfl] at hr
  refine ⟨fun hst => ?_, fun hst hany => ?_, fun hno hheld hclaim hwait => ?_⟩
  · have hboth := any_boundRows_both.mpr hst
    rw [State.bindRefusal, if_pos hboth, State.writeBind, if_pos hboth, command_taken _ _ h.1 h.2] at hr
    exact hr
  · rw [State.bindRefusal, if_neg (fun k => hst (any_boundRows_both.mp k))] at hr
    cases hrow : s.boundRows.any (fun b => b.address == a || b.unit == u) with
    | true =>
      rw [hrow] at hr
      exact refuses_of_command h hr
    | false =>
      have hor : (s.heldElsewhere a u || s.storeOfOther a u) = true := by
        rw [Bool.or_eq_true_iff, heldElsewhere_iff, storeOfOther_iff]
        rcases hany with k | k | k | k
        · exact absurd (any_boundRows_half.mpr k) (by simp [hrow])
        · exact .inl (.inl k)
        · exact .inl (.inr k)
        · exact .inr k
      rw [hrow, hor] at hr
      exact refuses_of_command h hr
  · have hst : ¬s.boundRows.any (fun b => b.address == a && b.unit == u) = true := by
      rw [any_boundRows_both]
      exact fun ⟨i, hi⟩ => hno ⟨i, _, hi, .inl rfl⟩
    have hor : (s.heldElsewhere a u || s.storeOfOther a u) = false := by
      rw [Bool.eq_false_iff, Ne, Bool.or_eq_true_iff, heldElsewhere_iff, storeOfOther_iff]
      rintro ((k | k) | k)
      · exact hheld k
      · exact hclaim k
      · exact hwait k
    rw [State.bindRefusal, if_neg hst, Bool.eq_false_iff.mpr fun k => hno (any_boundRows_half.mp k), hor, firstRefusal_passes, firstRefusal_passes] at hr
    refine ⟨fun hfull => ?_, fun i hi hj => ?_⟩
    · rw [allRowsUsed_iff.mpr hfull] at hr
      exact refuses_of_command h hr
    · have hfree : s.bindings.toList.all (fun row => !rowUnused row) = false := by
        rw [Bool.eq_false_iff, Ne, allRowsUsed_iff]
        exact fun k => k i hi
      rw [hfree, firstRefusal_passes, firstRefusal, command_taken _ _ h.1 h.2, State.writeBind, if_neg hst,
        writeBinding_first (i := i) (by simp [hi, rowUnused]) fun j hlt => by
          simpa [rowUnused, Option.isSome_iff_ne_none] using hj j hlt] at hr
      exact hr

end Sys2Proof.Machine
end

section
/-! PROOF. What the verdicts of one cause leave in the queue and the ring (R132), and RELEASE (O23). -/

namespace Sys2Proof.Machine

/-! ## Verdicts -/

/-- A request that the verdicts leave is one they do not reach, or keeps its place with its verdict stored. -/
theorem splitVerdicts_left {f : Request → Option Completion} {room : Nat} {q : List Request} {r : Request}
    (h : r ∈ (splitVerdicts f room q).2) :
    (r ∈ q ∧ f r = none) ∨ ∃ p v, f p = some v ∧ r = { p with verdict := some v } := by
  induction q generalizing room with
  | nil => simp [splitVerdicts] at h
  | cons p rest ih =>
    have hrest {n : Nat} (hr : r ∈ (splitVerdicts f n rest).2) :
        (r ∈ p :: rest ∧ f r = none) ∨ ∃ p v, f p = some v ∧ r = { p with verdict := some v } :=
      (ih hr).imp_left fun ⟨h1, h2⟩ => ⟨List.mem_cons_of_mem _ h1, h2⟩
    unfold splitVerdicts at h
    split at h
    · rename_i hf
      rcases List.mem_cons.mp h with rfl | h
      · exact .inl ⟨by simp, hf⟩
      · exact hrest h
    · rename_i v hf
      split at h
      · exact hrest h
      · rcases List.mem_cons.mp h with rfl | h
        · exact .inr ⟨p, v, hf, rfl⟩
        · exact hrest h

/-- A request that the verdicts do not reach stays. -/
theorem splitVerdicts_keeps {f : Request → Option Completion} {room : Nat} {q : List Request} {r : Request} (hr : r ∈ q)
    (hf : f r = none) : r ∈ (splitVerdicts f room q).2 := by
  induction q generalizing room with
  | nil => simp at hr
  | cons p rest ih =>
    unfold splitVerdicts
    rcases List.mem_cons.mp hr with rfl | hr
    · simp [hf]
    · split
      · exact List.mem_cons_of_mem _ (ih hr)
      · split
        · exact ih hr
        · exact List.mem_cons_of_mem _ (ih hr)

/-- A HELD request that the verdicts reach is posted through its reservation. -/
theorem splitVerdicts_held {f : Request → Option Completion} {room : Nat} {q : List Request} {r : Request} {v : Completion}
    (hr : r ∈ q) (hf : f r = some v) (hp : r.phase = .held) : (r, v) ∈ (splitVerdicts f room q).1 := by
  induction q generalizing room with
  | nil => simp at hr
  | cons p rest ih =>
    unfold splitVerdicts
    rcases List.mem_cons.mp hr with rfl | hr
    · simp [hf, hp]
    · split
      · exact ih hr
      · split
        · exact List.mem_cons_of_mem _ (ih hr)
        · exact ih hr

/-- With no slot free, an UNSTARTED request that the verdicts reach keeps its place with its verdict stored. -/
theorem splitVerdicts_waits {f : Request → Option Completion} {q : List Request} {r : Request} {v : Completion}
    (hr : r ∈ q) (hf : f r = some v) (hp : r.phase = .unstarted) :
    { r with verdict := some v } ∈ (splitVerdicts f 0 q).2 := by
  induction q with
  | nil => simp at hr
  | cons p rest ih =>
    unfold splitVerdicts
    rcases List.mem_cons.mp hr with rfl | hr
    · simp [hf, hp]
    · split
      · exact List.mem_cons_of_mem _ (ih hr)
      · split
        · simpa using ih hr
        · exact List.mem_cons_of_mem _ (ih hr)

/-- The requests for an address are given one verdict, if they have none and are not ON-LINE (R132, R133). -/
theorem openTo_address {a : Addr} {v : Completion} (r : Request) :
    openTo (fun r => if r.address = some a then some v else none) r =
      if r.address = some a ∧ r.verdict = none ∧ r.phase ≠ .onLine then some v else none := by
  unfold openTo
  by_cases h1 : r.verdict = none <;> by_cases h2 : r.phase = .onLine <;> by_cases h3 : r.address = some a <;>
    simp [h1, h2, h3]

section
variable {s : State} {a : Addr} {v : Completion} {r : Request}

/-- After the verdicts each request for the address has one or is ON-LINE. -/
theorem withVerdicts_reached (h : r ∈ (s.withVerdicts a v).queue) (ha : r.address = some a) :
    r.verdict ≠ none ∨ r.phase = .onLine := by
  rcases splitVerdicts_left (show r ∈ (splitVerdicts _ s.freeSlots s.queue).2 from h) with ⟨-, hf⟩ | ⟨p, w, -, rfl⟩
  · rw [openTo_address] at hf
    by_contra hno
    simp [ha] at hf hno
    exact hno.2 (hf hno.1)
  · simp

/-- Requests for other addresses stay as they are. -/
theorem withVerdicts_other (h : r ∈ s.queue) (ha : r.address ≠ some a) : r ∈ (s.withVerdicts a v).queue :=
  splitVerdicts_keeps (room := s.freeSlots) h (by simp [openTo_address, ha])

/-- A HELD request's record is posted, and it leaves the queue. -/
theorem withVerdicts_held (h : r ∈ s.queue) (ha : r.address = some a) (hp : r.phase = .held) (hv : r.verdict = none) :
    r ∉ (s.withVerdicts a v).queue ∧ .request {
      address := some a, ticket := r.ticket, result := v, reason := 0, attempts := r.attempts,
      abortRequested := r.abortRequested, waits := r.waits, payload := [] } ∈ (s.withVerdicts a v).ring := by
  have hf : openTo (fun r => if r.address = some a then some v else none) r = some v := by
    simp [openTo_address, ha, hp, hv]
  refine ⟨fun hmem => ?_, ?_⟩
  · rcases splitVerdicts_left (show r ∈ (splitVerdicts _ s.freeSlots s.queue).2 from hmem) with ⟨-, hn⟩ | ⟨p, w, -, rfl⟩
    · simp [hf] at hn
    · simp at hv
  · have := splitVerdicts_held (room := s.freeSlots) h hf hp
    exact List.mem_append_right _ (List.mem_map.mpr ⟨(r, v), this, by rw [← ha]⟩)

/-- With no slot free, an UNSTARTED request keeps its place with the verdict stored. -/
theorem withVerdicts_waits (h : r ∈ s.queue) (ha : r.address = some a) (hp : r.phase = .unstarted) (hv : r.verdict = none)
    (hfull : s.freeSlots = 0) : { r with verdict := some v } ∈ (s.withVerdicts a v).queue := by
  have := splitVerdicts_waits (f := openTo fun r => if r.address = some a then some v else none) (v := v) h
    (by simp [openTo_address, ha, hp, hv]) hp
  rwa [← hfull] at this

end

/-! ## RELEASE -/

theorem exec_release_none {s : State} (h : s.argAddress = none) :
    exec .release s = .next (s.command (some .badRequest) s) := by
  simp [exec, execRelease, h]

theorem exec_release_some {s : State} {a : Addr} (h : s.argAddress = some a) :
    exec .release s = .next (s.command (firstRefusal
      [((s.entry a).state == .free || (s.entry a).state == .releasing, .notEligible)]) (s.releaseEntry a)) := by
  simp [exec, execRelease, h]

/-- The end of the negotiation of one address leaves any other negotiation, and its commit, alone (R91, R94). -/
theorem endNegotiationOf_ends (a : Addr) (s : State) : s.endNegotiationOf a = { s with
    negotiation := if s.negotiating = some a then none else s.negotiation
    active := if s.negotiating = some a ∧ s.commitPending = true then s.shadow else s.active
    commitPending := if s.negotiating = some a then false else s.commitPending
    cause := s.cause ||| if s.negotiating = some a ∧ s.commitPending = true then 0x04 else 0 } := by
  rw [endNegotiationOf_eq, endNegotiation_eq]
  by_cases h : s.negotiating = some a
  · simp only [h, if_true, true_and]
    rfl
  · simp [h]

/-- The effects of a taken RELEASE on a queue whose tickets are distinct (R16). -/
theorem releaseEntry_eq (a : Addr) (s : State) (hn : (s.queue.map Request.ticket).Nodup) :
    s.releaseEntry a = { s.withVerdicts a .released with
      roster := s.roster.set a.val { s.entry a with state := .releasing, attention := .none, due := false }
      stores := s.stores.set a.val { s.store a with attention := none }
      fifo := s.fifo.erase a
      negotiation := if s.negotiating = some a then none else s.negotiation
      active := if s.negotiating = some a ∧ s.commitPending = true then s.shadow else s.active
      commitPending := if s.negotiating = some a then false else s.commitPending
      cause := (s.withVerdicts a .released).cause |||
        if s.negotiating = some a ∧ s.commitPending = true then 0x04 else 0 } := by
  rw [State.releaseEntry, giveAddressVerdicts_eq _ _ _ hn, endNegotiationOf_ends]
  rfl

/-- Settles O23: each check of RELEASE by its place, and the effects of a taken one on every part of the state. -/
theorem releaseChecksAndEffects : Obligations.ReleaseChecksAndEffects := by
  refine ⟨fun s h => ⟨fun hbad => refuses_of_command h (exec_release_none (argAddress_outside hbad)), fun a ha hst => ?_⟩,
    fun s a h ha hfifo hn hfree hrel => ?_⟩
  · have hr := exec_release_some (argAddress_number ha)
    rw [show ((s.entry a).state == .free || (s.entry a).state == .releasing) = true by rcases hst with k | k <;> simp [k],
      firstRefusal_holds] at hr
    exact refuses_of_command h hr
  · intro told ends
    have hr := exec_release_some (argAddress_number ha)
    rw [show ((s.entry a).state == .free || (s.entry a).state == .releasing) = false by simp [hfree, hrel],
      firstRefusal_passes, firstRefusal, command_taken _ _ h.1 h.2, releaseEntry_eq a s hn] at hr
    exact ⟨_, hr, rfl, hfifo.not_mem_erase, fun r => withVerdicts_reached (s := s) (v := .released),
      fun r => withVerdicts_other (s := s) (v := .released), fun r => withVerdicts_held (s := s) (v := .released),
      fun r => withVerdicts_waits (s := s) (v := .released)⟩

end Sys2Proof.Machine
end

section
/-! PROOF. The response frames that a node sends are accepted: what each of their bytes reads as, and the answer that the
tests of R38 find (R28, R30, R192; log 29). -/

namespace Sys2Proof.Machine

/-! ## The bytes of a response -/

/-- Every byte but the status byte and the low byte of a node page is read as it is. -/
theorem readByte_plain {shape : AnswerShape} {wire : List Byte} {k : Nat} (h0 : k ≠ 0)
    (h3 : k = 3 → carriesPage shape wire = false) : readByte shape wire k = wireByte wire k := by
  have hu : unusedAt shape wire k = 0 := by
    rw [unusedAt, if_neg h0, if_neg]
    rintro ⟨h, hc⟩
    simp [h3 h] at hc
  rw [readByte, hu, show (~~~0 : Byte) = BitVec.allOnes 8 from rfl, BitVec.and_allOnes]

/-- The low byte of a node page is read without the positions that its kind does not use (R192). -/
theorem readByte_page {shape : AnswerShape} {wire : List Byte} (h : carriesPage shape wire = true) :
    readByte shape wire 3 =
      wireByte wire 3 &&& ~~~(pageUnused (wordOfBytes (wireByte wire 2) (wireByte wire 3))).extractLsb' 0 8 := by
  rw [readByte, unusedAt, if_neg (by omega), if_pos ⟨rfl, h⟩]

/-- Bit 6 of the status byte is 0 (R192). -/
theorem statusByte_used (echo : Bool) (answer : Answer) :
    answer.statusByte echo &&& ~~~0x40 = answer.statusByte echo := by
  cases answer with
  | ack p =>
    show (flagBit 7 echo ||| 1) &&& ~~~0x40 = flagBit 7 echo ||| 1
    cases echo <;> decide
  | wait => cases echo <;> decide
  | refuse reason => cases echo <;> revert reason <;> decide

/-- The toggle echo of the status byte. -/
theorem statusByte_echo (echo : Bool) (answer : Answer) : (answer.statusByte echo).getLsbD 7 = echo := by
  cases answer with
  | ack p =>
    show (flagBit 7 echo ||| 1).getLsbD 7 = echo
    cases echo <;> decide
  | wait => cases echo <;> decide
  | refuse reason => cases echo <;> revert reason <;> decide

/-- The status and the reason that the status byte carries. -/
theorem statusByte_fields (echo : Bool) (answer : Answer) :
    (answer.statusByte echo).extractLsb' 0 2 = (match answer with | .ack _ => 1 | .wait => 2 | .refuse _ => 3) ∧
      (answer.statusByte echo).extractLsb' 2 4 = (match answer with | .ack _ => 0 | .wait => 0 | .refuse r => r) := by
  cases answer with
  | ack p =>
    show (flagBit 7 echo ||| 1).extractLsb' 0 2 = 1 ∧ (flagBit 7 echo ||| 1).extractLsb' 2 4 = 0
    cases echo <;> decide
  | wait => cases echo <;> decide
  | refuse reason => cases echo <;> revert reason <;> decide

/-! ## What the tests find -/

/-- A response that reads as the bytes of an answer, and is closed by their check byte, gives that answer (R38, R40). -/
theorem judgeResponse_reads {shape : AnswerShape} {toggle : Bool} {wire : List Byte} {answer : Answer}
    (hs : answer.suits shape = true)
    (hread : ∀ k, k < answer.payload.length + 2 → readByte shape wire k = (answer.body toggle).getD k 0)
    (hcheck : wireByte wire (answer.payload.length + 2) = checkByte (answer.body toggle)) :
    judgeResponse shape toggle wire .recessive = .ok answer := by
  have hlen : answer.payload.length ≤ 16 := by
    cases answer with
    | ack p =>
      simp only [Answer.suits, Bool.and_eq_true, decide_eq_true_eq] at hs
      exact hs.1
    | wait => simp [Answer.payload]
    | refuse reason => simp [Answer.payload]
  have h0 : readByte shape wire 0 = answer.statusByte toggle := hread 0 (by omega)
  have h1 : (readByte shape wire 1).toNat = answer.payload.length := by
    rw [hread 1 (by omega)]
    simp only [Answer.body, List.getD_cons_succ, List.getD_cons_zero, BitVec.toNat_ofNat]
    omega
  have hbytes : (List.range (answer.payload.length + 2)).map (fun k => readByte shape wire k) = answer.body toggle := by
    refine List.ext_getElem (by simp [Answer.body]) fun k hk _ => ?_
    simp only [List.length_map, List.length_range] at hk
    rw [List.getElem_map, List.getElem_range, hread k hk, List.getD_eq_getElem]
  have hpayload : (List.range answer.payload.length).map (fun k => readByte shape wire (k + 2)) = answer.payload := by
    refine List.ext_getElem (by simp) fun k hk _ => ?_
    simp only [List.length_map, List.length_range] at hk
    rw [List.getElem_map, List.getElem_range, hread (k + 2) (by omega), Answer.body, List.getD_cons_succ,
      List.getD_cons_succ, List.getD_eq_getElem]
  have hcomputed : Response.computedCheck shape wire = checkByte (answer.body toggle) := by
    rw [Response.computedCheck, h1, hbytes]
  obtain ⟨hstatus, hreason⟩ := statusByte_fields toggle answer
  have hresponse : Response.ofWire shape wire .recessive = {
      echo := toggle
      reason := (answer.statusByte toggle).extractLsb' 2 4
      status := (answer.statusByte toggle).extractLsb' 0 2
      length := answer.payload.length
      payload := answer.payload
      check := checkByte (answer.body toggle)
      tail := .recessive } := by
    simp only [Response.ofWire, h0, h1, statusByte_echo, hcheck, Config.payloadLimit, hlen, if_true, hpayload]
  have hshaped : (Response.ofWire shape wire .recessive).shaped shape = some answer := by
    rw [hresponse, Response.shaped, hstatus, hreason]
    cases answer with
    | ack p =>
      simp only [Answer.suits, Bool.and_eq_true] at hs
      simp [Answer.payload, hs.2]
    | wait =>
      simp only [Answer.suits] at hs
      simp [Answer.payload, hs]
    | refuse reason =>
      simp only [Answer.suits, Bool.and_eq_true, bne_iff_ne] at hs
      simp [Answer.payload, hs.2, show ¬reason = 0#4 from hs.1]
  unfold judgeResponse
  dsimp only
  rw [hshaped, hcomputed, hresponse, if_neg (by simpa [Config.payloadLimit] using hlen), if_neg (by simp), if_neg (by simp)]

/-- The bytes of a response before its check byte. -/
theorem wireByte_body {toggle : Bool} {answer : Answer} {k : Nat} (hk : k < answer.payload.length + 2) :
    wireByte (answer.wire toggle) k = (answer.body toggle).getD k 0 := by
  have hb : k < (answer.body toggle).length := hk
  rw [wireByte, Answer.wire, List.getD_append _ _ _ _ hb, List.getD_eq_getElem _ _ hb, List.getD_eq_getElem _ _ hb]

/-- The check byte of a response. -/
theorem wireByte_check (toggle : Bool) (answer : Answer) :
    wireByte (answer.wire toggle) (answer.payload.length + 2) = checkByte (answer.body toggle) := by
  have hb : (answer.body toggle).length = answer.payload.length + 2 := by simp [Answer.body]
  rw [wireByte, Answer.wire, List.getD_append_right _ _ _ _ hb.le, hb, Nat.sub_self]
  rfl

/-- The status byte of a response reads as it is. -/
theorem readByte_status {shape : AnswerShape} {wire : List Byte} {toggle : Bool} {answer : Answer}
    (h : wireByte wire 0 = answer.statusByte toggle) : readByte shape wire 0 = answer.statusByte toggle := by
  rw [readByte, h, unusedAt, if_pos rfl, statusByte_used]

/-- The low byte of a word. -/
theorem wordOfBytes_low (p q : Byte) : (wordOfBytes p q).extractLsb' 0 8 = q := by
  ext i hi
  rw [BitVec.getElem_extractLsb', Nat.zero_add]
  exact (BitVec.getLsbD_append (x := p) (y := q) (i := i)).trans (by simp [hi])

/-- Positions of a byte that hold 0 may be taken out of it. -/
theorem and_not_of_unused {w : PageWord} (h : w &&& pageUnused w = 0) :
    w.extractLsb' 0 8 &&& ~~~(pageUnused w).extractLsb' 0 8 = w.extractLsb' 0 8 := by
  ext i hi
  have := congrArg (fun v : PageWord => v.getLsbD i) h
  simp only [BitVec.getLsbD_and, BitVec.ofNat_eq_ofNat, BitVec.getLsbD_zero, Bool.and_eq_false_iff] at this
  simp only [BitVec.getElem_and, BitVec.getElem_not, BitVec.getElem_extractLsb', Nat.zero_add]
  rcases this with k | k <;> simp [k]

/-- A response frame that a node sends is accepted, with its answer, where its answer suits the frame and the positions
that its kind does not use are 0 (R28, R30, R38, R192). -/
theorem judgeResponse_wire {shape : AnswerShape} {answer : Answer} (toggle : Bool) (hs : answer.suits shape = true)
    (hz : unusedAreZero shape answer.payload = true) :
    judgeResponse shape toggle (answer.wire toggle) .recessive = .ok answer := by
  refine judgeResponse_reads hs (fun k hk => ?_) (wireByte_check toggle answer)
  have hw := wireByte_body (toggle := toggle) hk
  by_cases h0 : k = 0
  · subst h0
    exact readByte_status hw
  by_cases h3 : k = 3 ∧ carriesPage shape (answer.wire toggle) = true
  · obtain ⟨rfl, hc⟩ := h3
    rw [readByte_page hc, wireByte_body (toggle := toggle) hk, wireByte_body (toggle := toggle) (k := 2) (by omega)]
    cases shape with
    | page index =>
      have hz' : wordOfBytes (answer.payload.getD 0 0) (answer.payload.getD 1 0) &&&
          pageUnused (wordOfBytes (answer.payload.getD 0 0) (answer.payload.getD 1 0)) = 0 := by
        simpa [unusedAreZero] using hz
      have hlow := and_not_of_unused hz'
      rw [wordOfBytes_low] at hlow
      exact hlow
    | noAnswer | field | claim | poll | write _ | read _ | release => simp [carriesPage] at hc
  · rw [readByte_plain h0 (fun h => by simpa [h] using h3), hw]

end Sys2Proof.Machine
end

section
/-! PROOF. The ends of exchanges as one layer: what an accepted answer, an exhausted and an interrupted exchange lead to, and
the entry that an accepted answer leaves; and the end of a RELEASE exchange (O24). -/

namespace Sys2Proof.Machine

/-! ## The three ends -/

section
variable {s v : State} {x : Exchange} {c : Instr} {reason : Failure} {answer : Answer}

/-- An answer that suits its frame ends the exchange accepted: its source applies it, and the line is freed (R38, R43, R48). -/
theorem ends_accepted (ho : s.Open) (hx : s.exchange = some x) (hd : x.discard = false) (hs : x.source ≠ .clearDismiss)
    (hshape : x.shape.expectsAnswer = true) (hp : x.phase = .command ∨ x.phase = .reply)
    (hsuits : answer.suits x.shape = true) (hz : unusedAreZero x.shape answer.payload = true)
    (hconfirm : confirmFails x answer = false)
    (hend : ({ s.noteAnswer x.frame answer with exchange := none } : State).handEnd x answer.toEnd =
      { v with exchange := none }) :
    ∃ t, exec (.responseFrame (answer.wire x.sentToggle) .recessive) s = .next t ∧ v.LineFreed t := by
  refine ⟨_, exec_accepts ho.1 hx hshape hp (judgeResponse_wire _ hsuits hz), ?_⟩
  rw [acceptAnswer_ends hx hconfirm hd hs, hend]
  exact lineFreed_freed v

/-- The last allowed attempt that fails ends the exchange exhausted (R45, R48). -/
theorem ends_exhausted (ho : s.Open) (hx : s.exchange = some x) (hd : x.discard = false) (hs : x.source ≠ .clearDismiss)
    (hf : x.FailsBy c reason) (hi : x.interruptTaken = false) (hu : x.allowed ≤ x.used)
    (hend : ({ s with exchange := none } : State).handEnd x (.exhausted (reason == .sequence)) =
      { v with exchange := none }) : ∃ t, exec c s = .next t ∧ v.LineFreed t := by
  refine ⟨_, exec_failsBy ho.1 hx hf, ?_⟩
  rw [attemptFails_exhausted reason hi hu hd hs, hend]
  exact lineFreed_freed v

/-- An attempt that fails under an interruption ends the exchange interrupted (R46, R48). -/
theorem ends_interrupted (ho : s.Open) (hx : s.exchange = some x) (hd : x.discard = false) (hs : x.source ≠ .clearDismiss)
    (hf : x.FailsBy c reason) (hi : x.interruptTaken = true)
    (hend : ({ s with exchange := none } : State).handEnd x .interrupted = { v with exchange := none }) :
    ∃ t, exec c s = .next t ∧ v.LineFreed t := by
  refine ⟨_, exec_failsBy ho.1 hx hf, ?_⟩
  rw [attemptFails_interrupted reason hi hd hs, hend]
  exact lineFreed_freed v

end

/-! ## What an accepted answer sets -/

/-- Replacing an entry twice leaves the second. -/
@[simp] theorem setEntry_setEntry (s : State) (a : Addr) (e f : Entry) : (s.setEntry a e).setEntry a f = s.setEntry a f := by
  simp [State.setEntry]

/-- An accepted answer to an addressed frame sets facts of its entry alone (R34, R35). -/
theorem noteAnswer_addressed {f : Frame} {a : Addr} (h : f.addressed = some a) (answer : Answer) (s : State) :
    s.noteAnswer f answer =
      s.setEntry a ((s.entry a).answered s.lineState f.kind answer s.holdOffTime) := by
  simp [State.noteAnswer, h, State.modifyEntry]

/-- An accepted answer to a frame that addresses no entry sets nothing. -/
theorem noteAnswer_plain {f : Frame} (h : f.addressed = none) (answer : Answer) (s : State) : s.noteAnswer f answer = s := by
  simp [State.noteAnswer, h]

/-- The answers that a node may give (R28, R30). -/
theorem suits_wait {shape : AnswerShape} (h : shape.acceptsWaitRefuse = true) : Answer.wait.suits shape = true := h

theorem suits_refuse {shape : AnswerShape} {reason : BitVec 4} (hr : reason ≠ 0) (h : shape.acceptsWaitRefuse = true) :
    (Answer.refuse reason).suits shape = true := by
  rw [Answer.suits, h, Bool.and_true, bne_iff_ne]
  exact hr

theorem suits_ack {shape : AnswerShape} {p : List Byte} (hl : p.length ≤ 16) (h : shape.acceptsAck p = true) :
    (Answer.ack p).suits shape = true := by
  rw [Answer.suits, h, Bool.and_true, decide_eq_true_eq]
  exact hl

/-- Only a WRITE's ACK is compared with its frame (R42). -/
theorem confirmFails_other {x : Exchange} {answer : Answer} (h : ∀ c, x.shape ≠ .write c) : confirmFails x answer = false := by
  unfold confirmFails
  split
  · rename_i hs
    exact absurd hs (h true)
  · rfl

/-- Only an ACK is compared with its frame (R42). -/
theorem confirmFails_noAck {x : Exchange} {answer : Answer} (h : ∀ p, answer ≠ .ack p) : confirmFails x answer = false := by
  unfold confirmFails
  split
  · exact absurd rfl (h _)
  · rfl

/-! ## Events with room -/

/-- A slot is free for a new item (R147). -/
theorem freeSlots_pos {s : State} (ho : s.occupancy < 16) (hw : s.waiting = 0) : 0 < s.freeSlots := by
  rw [State.freeSlots, if_pos hw]
  omega

/-- An event about an address posts where a slot is free (R147). -/
theorem raiseAt_room {s : State} (a : Addr) (d : EventData) (h : 0 < s.freeSlots) :
    s.raiseAt a d = { s with
      ring := s.ring ++ [.event { address := some a, unit := (s.entry a).unit, data := d }]
      cause := s.cause ||| 0x01 } := by
  rw [State.raiseAt, raise_eq rfl, if_pos h]

/-- An entry that becomes FREE while a slot is free posts RELEASED (R5, R10, R19). -/
theorem becomeFree_room {s : State} (a : Addr) (answered : Bool) (h : 0 < s.freeSlots) :
    s.becomeFree a answered = { s with
      roster := s.roster.set a.val Entry.empty, fifo := s.fifo.erase a
      ring := s.ring ++ [.event { address := some a, unit := (s.entry a).unit, data := .released answered }]
      cause := s.cause ||| 0x01 } := by
  rw [State.becomeFree, raiseAt_room a _ h]
  rfl

/-! ## The end of a RELEASE exchange -/

/-- RELEASE is handed the end for the entry its frame addresses. -/
theorem handEnd_release {x : Exchange} {a : Addr} (hs : x.source = .release) (ha : x.frame.address = some a) (e : ExchangeEnd)
    (s : State) : s.handEnd x e = s.releaseEnd a e := by
  simp [State.handEnd, hs, ha]

/-- The frame of an entry that an addressed kind names. -/
theorem addressed_of_kind {f : Frame} {a : Addr} (hk : f.kind = .page ∨ f.kind = .poll ∨ f.kind = .write ∨ f.kind = .read ∨
    f.kind = .release) (ha : f.address = some a) : f.addressed = some a := by
  rcases hk with k | k | k | k | k <;> simp [Frame.addressed, k, ha]

/-- An answered RELEASE frees the entry whatever the answer set in it (R19). -/
theorem becomeFree_answered {s : State} {a : Addr} {e : Entry} (answered : Bool) (h : 0 < s.freeSlots)
    (hu : e.unit = (s.entry a).unit) :
    ({ s.setEntry a e with exchange := none } : State).becomeFree a answered =
      { s.becomeFree a answered with exchange := none } := by
  rw [becomeFree_room a answered h, becomeFree_room (s := { s.setEntry a e with exchange := none }) a answered h]
  simp only [State.entry] at hu ⊢
  simp [State.setEntry, hu]

/-- Settles O24: by the answer or the failure that ends the exchange; each frees the entry or leaves it RELEASING. -/
theorem releaseExchangeFreesTheEntry : Obligations.ReleaseExchangeFreesTheEntry := by
  intro s x a ho _ hx hd hs hshape hk ha hp hocc hwait ends answers freed
  have hroom := freeSlots_pos hocc hwait
  have hfreed (answered : Bool) : s.becomeFree a answered = freed answered := becomeFree_room a answered hroom
  have hnot : x.source ≠ .clearDismiss := by simp [hs]
  have haddr := addressed_of_kind (.inr (.inr (.inr (.inr hk)))) ha
  have hexpects : x.shape.expectsAnswer = true := by simp [hshape, AnswerShape.expectsAnswer]
  have hwaits : x.shape.acceptsWaitRefuse = true := by simp [hshape, AnswerShape.acceptsWaitRefuse]
  have hconfirm (answer : Answer) : confirmFails x answer = false := confirmFails_other (by simp [hshape])
  have hz (p : List Byte) : unusedAreZero x.shape p = true := by simp [hshape, unusedAreZero]
  refine ⟨?_, fun reason hr => ?_, ?_, fun c reason hf => ⟨fun hi hu => ?_, fun hi => ?_⟩⟩
  · refine ends_accepted ho hx hd hnot hexpects hp (suits_ack (by simp) (by simp [hshape, AnswerShape.acceptsAck])) (hz _)
      (hconfirm _) ?_
    rw [noteAnswer_addressed haddr, handEnd_release hs ha, ← hfreed]
    exact becomeFree_answered true hroom rfl
  · refine ends_accepted ho hx hd hnot hexpects hp (suits_refuse hr hwaits) (hz _) (hconfirm _) ?_
    rw [noteAnswer_addressed haddr, handEnd_release hs ha, ← hfreed]
    exact becomeFree_answered false hroom rfl
  · refine ends_accepted ho hx hd hnot hexpects hp (suits_wait hwaits) (hz _) (hconfirm _) ?_
    rw [noteAnswer_addressed haddr, handEnd_release hs ha]
    rfl
  · refine ends_exhausted ho hx hd hnot hf hi hu ?_
    rw [handEnd_release hs ha, ← hfreed, becomeFree_room a false hroom]
    exact becomeFree_room (s := { s with exchange := none }) a false hroom
  · refine ends_interrupted ho hx hd hnot hf hi ?_
    rw [handEnd_release hs ha]
    rfl

end Sys2Proof.Machine
end

section
/-! PROOF. Misses, lost nodes and failed polls (O37). -/

namespace Sys2Proof.Machine

/-! ## Misses and entering LOST -/

/-- Replacing an entry by itself changes nothing. -/
theorem setEntry_entry (s : State) (a : Addr) : s.setEntry a (s.entry a) = s := by
  simp [State.setEntry, State.entry]

/-- An entry that becomes LOST while a slot is free after its verdicts posts LOST (R5, R7, R133). -/
theorem enterLost_room {s : State} {a : Addr} (hn : (s.queue.map Request.ticket).Nodup)
    (h : 0 < (s.withVerdicts a .nodeLost).freeSlots) : s.enterLost a = { s.withVerdicts a .nodeLost with
      roster := s.roster.set a.val { s.entry a with state := .lost, holdOff := none }
      ring := (s.withVerdicts a .nodeLost).ring ++ [.event { address := some a, unit := (s.entry a).unit, data := .lost }]
      cause := (s.withVerdicts a .nodeLost).cause ||| 0x01 } := by
  have hn' : ((s.modifyEntry a fun e => { e with state := .lost, holdOff := none }).queue.map Request.ticket).Nodup := hn
  have hu : ((s.modifyEntry a fun e => { e with state := .lost, holdOff := none }).withVerdicts a .nodeLost).entry a =
      { s.entry a with state := .lost, holdOff := none } := State.entry_setEntry_self s a _
  rw [State.enterLost, giveAddressVerdicts_eq a .nodeLost _ hn', raiseAt_room a .lost (by exact h), hu]
  rfl

/-- A miss that does not reach the limit of an ACTIVE entry is counted (R107). -/
theorem addMiss_counts {s : State} {a : Addr}
    (h : (s.entry a).state = .active → min 15 ((s.entry a).misses + 1) < s.missLimit.toNat) :
    s.addMiss a = s.setEntry a { s.entry a with misses := min 15 ((s.entry a).misses + 1) } := by
  unfold State.addMiss
  dsimp only
  rw [if_neg]
  · rfl
  · simp only [Bool.and_eq_true, decide_eq_true_eq, not_and, Nat.not_le]
    exact h

/-- A miss that brings an ACTIVE entry to the limit loses the node (R108). -/
theorem addMiss_loses {s : State} {a : Addr} (hact : (s.entry a).state = .active)
    (hle : s.missLimit.toNat ≤ min 15 ((s.entry a).misses + 1)) (hn : (s.queue.map Request.ticket).Nodup)
    (h : 0 < (s.withVerdicts a .nodeLost).freeSlots) : s.addMiss a = { s.withVerdicts a .nodeLost with
      roster := s.roster.set a.val
        { s.entry a with misses := min 15 ((s.entry a).misses + 1), state := .lost, holdOff := none }
      ring := (s.withVerdicts a .nodeLost).ring ++ [.event { address := some a, unit := (s.entry a).unit, data := .lost }]
      cause := (s.withVerdicts a .nodeLost).cause ||| 0x01 } := by
  unfold State.addMiss
  dsimp only
  have hlost := enterLost_room (a := a)
    (s := s.modifyEntry a fun e => { e with misses := min Config.nibbleMax ((s.entry a).misses + 1) }) hn h
  rw [entry_modifyEntry_self] at hlost
  rw [if_pos, hlost]
  · simp only [State.modifyEntry, State.setEntry, Vector.set_set]
    rfl
  · rw [hact, Bool.and_eq_true, decide_eq_true_eq, decide_eq_true_eq]
    exact ⟨rfl, hle⟩

/-! ## Failed polls -/

/-- SWEEP is handed the end for the entry its frame addresses. -/
theorem handEnd_sweep {x : Exchange} {a : Addr} (hs : x.source = .sweep) (ha : x.frame.address = some a) (e : ExchangeEnd)
    (s : State) : s.handEnd x e = s.pollEnd a x.frame.ackFlag e := by
  simp [State.handEnd, hs, ha]

/-- A failed poll of a LOST entry clears its due flag (R105). -/
theorem failedPoll_lost {s : State} {a : Addr} (h : (s.entry a).state = .lost) :
    s.failedPoll a = s.setEntry a { s.entry a with due := false } := by
  simp [State.failedPoll, h, State.modifyEntry]

/-- A failed poll of any other entry clears its due flag and counts a miss (R105). -/
theorem failedPoll_misses {s : State} {a : Addr} (h : (s.entry a).state ≠ .lost) :
    s.failedPoll a = (s.setEntry a { s.entry a with due := false }).addMiss a := by
  simp [State.failedPoll, h, State.modifyEntry]

/-- A poll that is exhausted or refused while the line is BUSY is a failed poll (R105). -/
theorem pollEnd_fails {s : State} {a : Addr} {k : Bool} {e : ExchangeEnd}
    (he : (∃ o, e = .exhausted o) ∨ ∃ reason, e = .refuse reason) (hr : (s.entry a).state ≠ .releasing)
    (hl : s.lineState = .busy) : s.pollEnd a k e = s.failedPoll a := by
  rcases he with ⟨o, rfl⟩ | ⟨reason, rfl⟩ <;> simp [State.pollEnd, hr, hl]

/-- On a DRAINING line a poll that is exhausted or refused stays owed (R162). -/
theorem pollEnd_owed {s : State} {a : Addr} {k : Bool} {e : ExchangeEnd}
    (he : (∃ o, e = .exhausted o) ∨ ∃ reason, e = .refuse reason) (hl : s.lineState = .draining) : s.pollEnd a k e = s := by
  rcases he with ⟨o, rfl⟩ | ⟨reason, rfl⟩ <;> simp [State.pollEnd, hl]

/-- What a failed poll leaves of an entry that the end of its exchange has set (R105, R107, R108). -/
theorem failedPoll_effects {s : State} {a : Addr} {e : Entry} :
    let u : State := { s.setEntry a e with exchange := none }
    let missed : Entry := { e with due := false, misses := min 15 (e.misses + 1) }
    let told := s.withVerdicts a .nodeLost
    (e.state ≠ .lost → (e.state = .active → missed.misses < s.missLimit.toNat) →
      u.failedPoll a = { s.setEntry a missed with exchange := none }) ∧
    (e.state = .active → s.missLimit.toNat ≤ missed.misses → (s.queue.map Request.ticket).Nodup →
      0 < told.freeSlots → u.failedPoll a = { told with
        exchange := none
        roster := s.roster.set a.val { missed with state := .lost, holdOff := none }
        ring := told.ring ++ [.event { address := some a, unit := e.unit, data := .lost }]
        cause := told.cause ||| 0x01 }) ∧
    (e.state = .lost → u.failedPoll a = { s.setEntry a { e with due := false } with exchange := none }) := by
  intro u missed told
  have hu : u.entry a = e := State.entry_setEntry_self s a e
  have hset (f : Entry) : u.setEntry a f = { s.setEntry a f with exchange := none } := by simp [u, State.setEntry]
  have hd : (u.setEntry a { e with due := false }).entry a = { e with due := false } := State.entry_setEntry_self u a _
  refine ⟨fun hl hlt => ?_, fun hact hle hn hroom => ?_, fun hl => ?_⟩
  · rw [failedPoll_misses (hu ▸ hl), hu, addMiss_counts (by rw [hd]; exact hlt), hd, setEntry_setEntry, hset]
  · have hloses := addMiss_loses (s := u.setEntry a { e with due := false }) (a := a) (by rw [hd]; exact hact)
      (by rw [hd]; exact hle) hn hroom
    rw [hd] at hloses
    rw [failedPoll_misses (by simp [hu, hact]), hu, hloses]
    simp only [u, State.setEntry, Vector.set_set]
    rfl
  · rw [failedPoll_lost (hu ▸ hl), hu, hset]

/-- What an accepted REFUSE to a POLL sets (R34, R107; log 24). -/
theorem noteAnswer_pollRefuse {f : Frame} {a : Addr} {s : State} {reason : BitVec 4} (h : f.addressed = some a)
    (hk : f.kind = .poll) (hr : (s.entry a).state ≠ .releasing) :
    s.noteAnswer f (.refuse reason) = s.setEntry a { s.entry a with
      toggle := !(s.entry a).toggle
      misses := if s.lineState = .draining ∨ (s.entry a).state = .lost then (s.entry a).misses else 0 } := by
  rw [noteAnswer_addressed h]
  simp [Entry.answered, keepsMisses, hk, hr]

/-- Settles O37: an exhausted and a refused poll fail alike, of entries that differ in what the answer has set. -/
theorem failedPollCountsMiss : Obligations.FailedPollCountsMiss := by
  intro s x a ho hx hd hs hshape hk ha hp hrel ends refuse becomes fails e
  have hnot : x.source ≠ .clearDismiss := by simp [hs]
  have haddr := addressed_of_kind (.inr (.inl hk)) ha
  have hrefuse {reason : BitVec 4} {v : State} (hr : reason ≠ 0)
      (hend : ({ s.noteAnswer x.frame (.refuse reason) with exchange := none } : State).pollEnd a x.frame.ackFlag
        (.refuse reason) = { v with exchange := none }) : ends (refuse reason) v :=
    ends_accepted ho hx hd hnot (by simp [hshape, AnswerShape.expectsAnswer]) hp
      (suits_refuse hr (by simp [hshape, AnswerShape.acceptsWaitRefuse])) (by simp [hshape, unusedAreZero])
      (confirmFails_other (by simp [hshape])) (by rw [handEnd_sweep hs ha]; exact hend)
  have hfails {c : Instr} {e' : Entry} (hsame : e'.state = e.state)
      (hc : ∀ {v : State}, ({ s.setEntry a e' with exchange := none } : State).failedPoll a = { v with exchange := none } →
        ends c v) : fails c e' := by
    obtain ⟨h1, h2, h3⟩ := failedPoll_effects (s := s) (a := a) (e := e')
    exact ⟨fun hl hlt => hc (h1 hl hlt), fun hact hle hn hocc hw => hc (h2 hact hle hn (freeSlots_pos hocc hw)),
      fun hl => hc (h3 hl)⟩
  refine ⟨fun hb => ⟨fun hi hu c reason hf => hfails rfl fun hv => ?_, fun reason hr => hfails rfl fun hv => ?_⟩,
    fun hdr hi => ⟨fun c reason hf => ?_, fun reason hr => ?_⟩⟩
  · refine ends_exhausted ho hx hd hnot hf hi hu ?_
    rw [setEntry_entry] at hv
    rw [handEnd_sweep hs ha]
    exact (pollEnd_fails (s := { s with exchange := none }) (.inl ⟨_, rfl⟩) hrel hb).trans hv
  · refine hrefuse hr ?_
    have hl : (s.lineState = .draining ∨ (s.entry a).state = .lost) ↔ e.state = .lost := by simp [hb, e]
    rw [noteAnswer_pollRefuse haddr hk hrel]
    simp only [hl]
    refine (pollEnd_fails (.inr ⟨_, rfl⟩) ?_ (by exact hb)).trans hv
    simpa [State.entry, State.setEntry] using hrel
  · refine ends_interrupted ho hx hd hnot hf hi ?_
    rw [handEnd_sweep hs ha]
    simp [State.pollEnd]
  · refine hrefuse hr ?_
    rw [noteAnswer_pollRefuse haddr hk hrel, if_pos (.inl hdr)]
    exact pollEnd_owed (.inr ⟨_, rfl⟩) hdr

end Sys2Proof.Machine
end

section
/-! PROOF. An accepted answer to a POLL (O36): the events that it raises, in order, and the entry that it leaves. -/

namespace Sys2Proof.Machine

/-! ## Events raised while an entry changes -/

/-- The state after some events have been raised, with one entry and the FIFO replaced. -/
def State.reported (a : Addr) (events : List EventRecord) (e : Entry) (fifo : List Addr) (s : State) : State :=
  { events.foldl (fun t ev => t.raise ev) s with roster := s.roster.set a.val e, fifo := fifo }

section
variable {s : State} {a : Addr} {events : List EventRecord} {e : Entry} {fifo : List Addr}

/-- With no event raised, only the entry and the FIFO are replaced. -/
theorem reported_nil (s : State) (a : Addr) (e : Entry) : s.reported a [] e s.fifo = s.setEntry a e := rfl

theorem reported_entry : (s.reported a events e fifo).entry a = e := Vector.getElem_set_self _

theorem reported_modifyEntry (f : Entry → Entry) :
    (s.reported a events e fifo).modifyEntry a f = s.reported a events (f e) fifo := by
  rw [State.modifyEntry, reported_entry]
  simp [State.reported, State.setEntry]

/-- An event about the entry is raised after the others, with the unit number the entry then holds (R145). -/
theorem reported_raiseAt (d : EventData) : (s.reported a events e fifo).raiseAt a d =
    s.reported a (events ++ [{ address := some a, unit := e.unit, data := d }]) e fifo := by
  rw [State.raiseAt, reported_entry, raise_eq rfl, State.reported, State.reported, List.foldl_append, List.foldl_cons,
    List.foldl_nil, raise_eq (a := a) rfl]
  generalize events.foldl (fun t ev => t.raise ev) s = t
  have hf : State.freeSlots { t with roster := s.roster.set a.val e, fifo := fifo } = t.freeSlots := rfl
  rw [hf]
  split <;> rfl

/-- Entering PENDING after the events. -/
theorem reported_enterPending : (s.reported a events e fifo).enterPending a =
    s.reported a events { e with state := .pending, due := false } (if a ∈ fifo then fifo else fifo ++ [a]) := by
  rw [enterPending_eq, reported_entry]
  simp only [State.reported, Vector.set_set]
  rfl

/-- The slots that the events leave (R147). -/
theorem reported_freeSlots (h : ∀ ev ∈ events, ev.address = some a) :
    (s.reported a events e fifo).freeSlots = s.freeSlots - events.length := by
  have hfold : (events.foldl (fun t ev => t.raise ev) s).freeSlots = s.freeSlots - events.length := by
    induction events generalizing s with
    | nil => rfl
    | cons ev rest ih =>
      rw [List.foldl_cons, ih fun x hx => h x (by simp [hx]), raise_freeSlots (h ev (by simp)), List.length_cons]
      omega
  exact hfold

end

/-! ## The steps of R102 -/

/-- The events that an accepted ACK to a POLL raises, in their order (R102 to R104). -/
def pollEvents (a : Addr) (e : Entry) (code : Byte) (c : Condition) (reports : Bool) : List EventRecord :=
  (if e.state = .lost then [{ address := some a, unit := e.unit, data := .back }] else []) ++
    (if c = e.condition then [] else [{ address := some a, unit := e.unit, data := .condition c }]) ++
    (if reports then [{ address := some a, unit := e.unit, data := .attention code }] else [])

/-- The attention state after the acknowledge (R102 step 4). -/
def Entry.standing (e : Entry) (acknowledged : Bool) : AttentionState := if acknowledged then .none else e.attention

/-- A new attention report is taken (R104). -/
def Entry.reports (e : Entry) (acknowledged : Bool) (code : Byte) : Bool :=
  decide (code ≠ 0) && e.terms.any (fun t => t.attention) && decide (e.standing acknowledged = .none)

/-- The state in which a polled entry is, once it has answered (R7, R110). -/
def Entry.returned (e : Entry) : EntryState :=
  if e.state = .lost then (if e.terms.isSome then .active else .pending) else e.state

theorem pollEvents_address {a : Addr} {e : Entry} {code : Byte} {c : Condition} {r : Bool} :
    ∀ ev ∈ pollEvents a e code c r, ev.address = some a := by
  unfold pollEvents
  split <;> split <;> split <;> simp

/-- The steps of R102, in their order: the return of a LOST entry, the acknowledge, the condition and the attention report,
which is HELD where no slot is free for it. -/
theorem pollAnswer_reported {s : State} {a : Addr} (k : Bool) (code : Byte) (c : Condition) :
    let e := s.entry a
    s.pollAnswer a k code c = s.reported a (pollEvents a e code c (e.reports k code))
      { e with
        state := e.returned, due := false, condition := c
        attention := if !e.reports k code then e.standing k
          else if (pollEvents a e code c false).length < s.freeSlots then .reported else .held }
      (if e.state = .lost ∧ e.terms = none ∧ a ∉ s.fifo then s.fifo ++ [a] else s.fifo) := by
  intro e
  unfold State.pollAnswer
  dsimp only
  have hdue : s.modifyEntry a (fun e => { e with due := false }) = s.reported a [] { e with due := false } s.fifo := rfl
  set fifo := if e.state = .lost ∧ e.terms = none ∧ a ∉ s.fifo then s.fifo ++ [a] else s.fifo with hfifo
  set back : List EventRecord := if e.state = .lost then [{ address := some a, unit := e.unit, data := .back }] else []
    with hback
  have hreturn : (if (s.entry a).state = .lost then (s.modifyEntry a fun e => { e with due := false }).probeReturn a
      else s.modifyEntry a fun e => { e with due := false }) =
      s.reported a back { e with state := e.returned, due := false } fifo := by
    rw [hdue, hback, hfifo, Entry.returned]
    by_cases hl : e.state = .lost
    · rw [if_pos hl, if_pos hl, if_pos hl, State.probeReturn, reported_entry]
      cases ht : e.terms with
      | some terms => simp [reported_modifyEntry, reported_raiseAt]
      | none =>
        simp only [Option.isSome_none, Bool.false_eq_true, if_false, hl, true_and]
        rw [reported_enterPending, reported_raiseAt]
        by_cases hm : a ∈ s.fifo <;> simp [hm]
    · simp [hl, show (s.entry a).state ≠ .lost from hl]
  rw [hreturn]
  have hack : (s.reported a back { e with state := e.returned, due := false } fifo).applyAcknowledge a k =
      s.reported a back { e with state := e.returned, due := false, attention := e.standing k } fifo := by
    unfold State.applyAcknowledge Entry.standing
    split
    · rw [reported_modifyEntry]
    · rfl
  rw [hack]
  have hcond : (s.reported a back { e with state := e.returned, due := false, attention := e.standing k } fifo).applyCondition
      a c = s.reported a (pollEvents a e code c false)
        { e with state := e.returned, due := false, attention := e.standing k, condition := c } fifo := by
    unfold State.applyCondition pollEvents
    rw [reported_entry, reported_modifyEntry, reported_raiseAt]
    by_cases hc : c = e.condition
    · simp [hc, hback]
    · rw [if_neg (Ne.symm hc), if_neg hc]
      simp [hback]
  rw [hcond]
  unfold State.applyAttention
  dsimp only
  rw [reported_entry]
  have hroom : (s.reported a (pollEvents a e code c false)
      { e with state := e.returned, due := false, attention := e.standing k, condition := c } fifo).roomNow = true ↔
      (pollEvents a e code c false).length < s.freeSlots := by
    rw [roomNow_freeSlots, reported_freeSlots pollEvents_address]
    omega
  have hreports : (code ≠ 0 ∧ (e.terms.any fun t => t.attention) = true ∧ e.standing k = .none) ↔
      e.reports k code = true := by
    simp [Entry.reports, and_assoc]
  cases hr : e.reports k code with
  | false => rw [if_neg (by rw [hreports, hr]; simp)]; rfl
  | true =>
    rw [if_pos (hreports.mpr hr), State.raiseAttention, reported_raiseAt, reported_modifyEntry]
    simp only [hroom]
    simp [pollEvents]

/-! ## The stores that the events leave -/

/-- An event is the last of a list from which some are dropped exactly where no more than those before it are. -/
theorem mem_drop_last {α : Type} {l : List α} {x : α} {n : Nat} (hx : x ∉ l) : x ∈ (l ++ [x]).drop n ↔ n ≤ l.length := by
  rw [List.drop_append, List.mem_append]
  constructor
  · rintro (h | h)
    · exact absurd (List.mem_of_mem_drop h) hx
    · by_contra hn
      rw [List.drop_of_length_le (by simp; omega)] at h
      simp at h
  · intro hn
    exact .inr (by simp [Nat.sub_eq_zero_of_le hn])

/-- What a store holds after events of a poll answer have been placed: each in the slot of its kind (R148 to R150). -/
theorem placed_events {a : Addr} {u : UnitNumber} {c : Condition} {code : Byte} (l : List EventRecord)
    (h : ∀ ev ∈ l, ev = ⟨some a, u, .back⟩ ∨ ev = ⟨some a, u, .condition c⟩ ∨ ev = ⟨some a, u, .attention code⟩)
    (st : Store) : l.foldl Store.place st = {
      status := if ⟨some a, u, .back⟩ ∈ l then some ⟨some a, u, .back⟩ else st.status
      condition := if ⟨some a, u, .condition c⟩ ∈ l then some ⟨some a, u, .condition c⟩ else st.condition
      attention := if ⟨some a, u, .attention code⟩ ∈ l then some ⟨some a, u, .attention code⟩ else st.attention } := by
  induction l generalizing st with
  | nil => rfl
  | cons ev rest ih =>
    rw [List.foldl_cons, ih fun x hx => h x (by simp [hx])]
    rcases h ev (by simp) with rfl | rfl | rfl <;> simp [Store.place]

theorem pollEvents_kinds {a : Addr} {e : Entry} {code : Byte} {c : Condition} {r : Bool} :
    ∀ ev ∈ pollEvents a e code c r, ev = ⟨some a, e.unit, .back⟩ ∨ ev = ⟨some a, e.unit, .condition c⟩ ∨
      ev = ⟨some a, e.unit, .attention code⟩ := by
  unfold pollEvents
  split <;> split <;> split <;> simp

/-- The state after a poll answer's events, written out (R147 to R150, R156). -/
theorem reported_eq {s : State} {a : Addr} {u : UnitNumber} {c : Condition} {code : Byte} {events : List EventRecord}
    {e : Entry} {fifo : List Addr}
    (h : ∀ ev ∈ events, ev = ⟨some a, u, .back⟩ ∨ ev = ⟨some a, u, .condition c⟩ ∨ ev = ⟨some a, u, .attention code⟩) :
    let waits := events.drop s.freeSlots
    s.reported a events e fifo = { s with
      roster := s.roster.set a.val e, fifo := fifo
      ring := s.ring ++ (events.take s.freeSlots).map .event
      stores := s.stores.set a.val {
        status := if ⟨some a, u, .back⟩ ∈ waits then some ⟨some a, u, .back⟩ else (s.store a).status
        condition := if ⟨some a, u, .condition c⟩ ∈ waits then some ⟨some a, u, .condition c⟩ else (s.store a).condition
        attention := if ⟨some a, u, .attention code⟩ ∈ waits then some ⟨some a, u, .attention code⟩
          else (s.store a).attention }
      cause := s.cause ||| (if events.take s.freeSlots = [] then 0 else 0x01) |||
        (if s.waiting = 0 ∧ waits ≠ [] then 0x80 else 0) } := by
  intro waits
  have haddr : ∀ ev ∈ events, ev.address = some a := fun ev hev => by rcases h ev hev with rfl | rfl | rfl <;> rfl
  rw [State.reported, raiseAll_eq events haddr, placed_events waits (fun ev hev => h ev (List.mem_of_mem_drop hev))]

/-- A condition that a poll answer may report (R30). -/
theorem ofCode?_code {c : Condition} (h : c ≠ .unknown) : Condition.ofCode? c.code = some c := by
  cases c with
  | ok => rfl
  | degraded => rfl
  | failed => rfl
  | unknown => exact absurd rfl h

/-- What an accepted ACK or REFUSE to a POLL of a RELEASING entry sets: the toggle alone (R17; log 9). -/
theorem noteAnswer_pollReleasing {f : Frame} {a : Addr} {s : State} {answer : Answer} (h : f.addressed = some a)
    (hk : f.kind = .poll) (hr : (s.entry a).state = .releasing) (hw : answer ≠ .wait) :
    s.noteAnswer f answer = s.setEntry a { s.entry a with toggle := !(s.entry a).toggle } := by
  rw [noteAnswer_addressed h]
  cases answer with
  | ack p => simp [Entry.answered, keepsMisses, hk, hr]
  | wait => exact absurd rfl hw
  | refuse reason => simp [Entry.answered, keepsMisses, hk, hr]

/-- The end of a POLL to a RELEASING entry is discarded (R17). -/
theorem pollEnd_releasing {s : State} {a : Addr} {k : Bool} {e : ExchangeEnd} (h : (s.entry a).state = .releasing) :
    s.pollEnd a k e = s := by
  simp [State.pollEnd, h]

/-- Settles O36: the events of the answer are raised in order, and what finds no slot free waits in the slot of its kind. -/
theorem pollAnswerIsApplied : Obligations.PollAnswerIsApplied := by
  intro s x a ho _ hx hd hs hshape hk ha hp e event ends answers becomes
  have hnot : x.source ≠ .clearDismiss := by simp [hs]
  have haddr := addressed_of_kind (.inr (.inl hk)) ha
  have hwaits : x.shape.acceptsWaitRefuse = true := by simp [hshape, AnswerShape.acceptsWaitRefuse]
  have hends {answer : Answer} {v : State} (hsuits : answer.suits x.shape = true)
      (hend : ({ s.noteAnswer x.frame answer with exchange := none } : State).pollEnd a x.frame.ackFlag answer.toEnd =
        { v with exchange := none }) : answers answer v :=
    ends_accepted ho hx hd hnot (by simp [hshape, AnswerShape.expectsAnswer]) hp hsuits (by simp [hshape, unusedAreZero])
      (confirmFails_other (by simp [hshape])) (by rw [handEnd_sweep hs ha]; exact hend)
  have hsuitsAck {code : Byte} {c : Condition} (hc : c ≠ .unknown) : (Answer.ack [code, c.code]).suits x.shape = true :=
    suits_ack (by simp) (by simp [hshape, AnswerShape.acceptsAck, ofCode?_code hc])
  have hentry (e' : Entry) : ({ s.setEntry a e' with exchange := none } : State).entry a = e' :=
    State.entry_setEntry_self s a e'
  refine ⟨fun code c hrel hc => ?_, hends (suits_wait hwaits) ?_, fun hrel => ⟨fun code c hc => hends (hsuitsAck hc) ?_,
    fun reason hr => hends (suits_refuse hr hwaits) ?_, fun c reason hf hlast => ?_⟩⟩
  · intro standing reports raised waits
    refine hends (hsuitsAck hc) ?_
    set e1 : Entry := { e with toggle := !e.toggle, misses := 0 } with he1
    have hnote : s.noteAnswer x.frame (.ack [code, c.code]) = s.setEntry a e1 := by
      rw [noteAnswer_addressed haddr, he1]
      simp [Entry.answered, keepsMisses, hk, hrel, e]
    rw [hnote]
    set u : State := { s.setEntry a e1 with exchange := none } with hu
    have hend : u.pollEnd a x.frame.ackFlag (.ack [code, c.code]) = u.pollAnswer a x.frame.ackFlag code c := by
      rw [State.pollEnd, if_neg (by rw [hu, hentry]; exact hrel)]
      simp [ofCode?_code hc]
    have hue : u.entry a = e1 := hentry e1
    have hatt : (if (!e1.reports x.frame.ackFlag code) = true then e1.standing x.frame.ackFlag
        else if (pollEvents a e1 code c false).length < u.freeSlots then AttentionState.reported else .held) =
        if (!reports) = true then standing else if event (.attention code) ∈ waits then .held else .reported := by
      change (if (!reports) = true then standing
        else if (pollEvents a e code c false).length < s.freeSlots then AttentionState.reported else .held) = _
      cases hreports : reports with
      | false => rfl
      | true =>
        have hraised : raised = pollEvents a e code c false ++ [event (.attention code)] := by
          simp [raised, hreports, pollEvents, event]
        have hnotin : event (.attention code) ∉ pollEvents a e code c false := by
          unfold pollEvents
          split <;> split <;> simp [event]
        have hmem : event (.attention code) ∈ waits ↔ ¬(pollEvents a e code c false).length < s.freeSlots := by
          rw [Nat.not_lt, ← mem_drop_last hnotin, ← hraised]
        by_cases hlt : (pollEvents a e code c false).length < s.freeSlots <;> simp [hmem, hlt]
    rw [Answer.toEnd, hend, pollAnswer_reported, hue]
    dsimp only
    rw [hatt, reported_eq (u := e1.unit) pollEvents_kinds]
    simp only [hu, State.setEntry, Vector.set_set]
    rfl
  · rw [noteAnswer_addressed haddr]
    simp only [Answer.toEnd, State.pollEnd, ite_self]
    rfl
  · rw [noteAnswer_pollReleasing haddr hk hrel (by simp)]
    exact pollEnd_releasing (by rw [hentry]; exact hrel)
  · rw [noteAnswer_pollReleasing haddr hk hrel (by simp)]
    exact pollEnd_releasing (by rw [hentry]; exact hrel)
  · cases hi : x.interruptTaken with
    | true =>
      refine ends_interrupted ho hx hd hnot hf hi ?_
      rw [handEnd_sweep hs ha]
      exact pollEnd_releasing hrel
    | false =>
      refine ends_exhausted ho hx hd hnot hf hi (by simpa [hi] using hlast) ?_
      rw [handEnd_sweep hs ha]
      exact pollEnd_releasing hrel

end Sys2Proof.Machine
end

section
/-! PROOF. The end of a READ's or an addressed WRITE's exchange (O19). -/

namespace Sys2Proof.Machine

/-! ## The ON-LINE request -/

/-- DISPATCH is handed the end for the ON-LINE request. -/
theorem handEnd_dispatch {x : Exchange} (hs : x.source = .dispatch) (e : ExchangeEnd) (s : State) :
    s.handEnd x e = s.requestEnd e := by
  unfold State.handEnd
  split <;> simp_all

/-- The state in which the ON-LINE request's record has been posted through its reservation (R131, R141). -/
def State.withRecord (r : Request) (result : Completion) (reason : BitVec 4) (payload : List Byte) (s : State) : State :=
  { s with
    queue := s.queue.eraseP Request.isOnLine
    ring := s.ring ++ [.request {
        address := r.address, ticket := r.ticket, result := result, reason := reason, attempts := r.attempts
        abortRequested := r.abortRequested, waits := r.waits, payload := payload }]
    cause := s.cause ||| 0x01 }

theorem completeRequest_eq (r : Request) (result : Completion) (reason : BitVec 4) (payload : List Byte) (s : State) :
    s.completeRequest r result reason payload = s.withRecord r result reason payload := rfl

/-- The state in which the ON-LINE request has become HELD (R118). -/
def State.withHeld (r : Request) (s : State) : State :=
  { s with queue := updateFirst Request.isOnLine (fun _ => { r with phase := .held }) s.queue }

theorem holdRequest_eq (r : Request) (s : State) : s.holdRequest r = s.withHeld r := rfl

/-- The entry of a request's address is RELEASING (R17). -/
theorem requestReleasing_iff {s : State} {r : Request} :
    s.requestReleasing r = true ↔ ∃ a, r.address = some a ∧ (s.entry a).state = .releasing := by
  unfold State.requestReleasing
  cases r.address <;> simp

/-- An end that would leave the request HELD, by the ABORT and the RELEASE that may have been taken (R17, R126, R128, R136). -/
theorem holdOrEnd_eq (r : Request) (s : State) : s.holdOrEnd r =
    if r.abortRequested then s.withRecord r .aborted 0 []
    else if s.requestReleasing r then s.withRecord r .released 0 [] else s.withHeld r := rfl

section
variable {s : State} {r : Request}

theorem requestEnd_ack (h : s.queue.find? Request.isOnLine = some r) (p : List Byte) :
    s.requestEnd (.ack p) = s.withRecord r .done 0 p := by
  simp only [State.requestEnd, State.onLine?, h, completeRequest_eq]

theorem requestEnd_refuse (h : s.queue.find? Request.isOnLine = some r) (reason : BitVec 4) :
    s.requestEnd (.refuse reason) = s.withRecord r .refused reason [] := by
  simp only [State.requestEnd, State.onLine?, h, completeRequest_eq]

theorem requestEnd_wait (h : s.queue.find? Request.isOnLine = some r) : s.requestEnd .wait =
    if s.waitLimit.toNat ≤ r.waited.waits then s.withRecord r.waited .nodeBusy 0 [] else s.holdOrEnd r.waited := by
  simp only [State.requestEnd, State.onLine?, h, State.waitRequest, completeRequest_eq]

theorem requestEnd_exhausted (h : s.queue.find? Request.isOnLine = some r) (o : Bool) :
    s.requestEnd (.exhausted o) = (s.withRecord r (exhaustedResult o) 0 []).missFor r := by
  simp only [State.requestEnd, State.onLine?, h, completeRequest_eq]

theorem requestEnd_interrupted (h : s.queue.find? Request.isOnLine = some r) : s.requestEnd .interrupted = s.holdOrEnd r := by
  simp only [State.requestEnd, State.onLine?, h]

theorem requestEnd_faulted (h : s.queue.find? Request.isOnLine = some r) :
    s.requestEnd .faulted = s.withRecord r .lineFault 0 [] := by
  simp only [State.requestEnd, State.onLine?, h, completeRequest_eq]

end

/-- The tickets that remain are distinct. -/
theorem withRecord_tickets {s : State} (h : (s.queue.map Request.ticket).Nodup) (r : Request) (c : Completion)
    (reason : BitVec 4) (p : List Byte) : ((s.withRecord r c reason p).queue.map Request.ticket).Nodup :=
  h.sublist (List.eraseP_sublist.map _)

/-! ## The miss of an exhausted exchange -/

/-- The entry after an exhausted exchange: a RELEASING one counts no miss (R17, R127). -/
def Entry.missed (e : Entry) : Entry := if e.state = .releasing then e else { e with misses := min 15 (e.misses + 1) }

/-- The miss of an exhausted exchange that loses no node. -/
theorem missFor_counts {s : State} {r : Request} {a : Addr} (ha : r.address = some a)
    (h : (s.entry a).state = .active → (s.entry a).missed.misses < s.missLimit.toNat) :
    s.missFor r = s.setEntry a (s.entry a).missed := by
  simp only [State.missFor, ha]
  by_cases hr : (s.entry a).state = .releasing
  · rw [if_pos hr, Entry.missed, if_pos hr, setEntry_entry]
  · rw [Entry.missed, if_neg hr] at h
    rw [if_neg hr, Entry.missed, if_neg hr, addMiss_counts h]

/-- The miss of an exhausted exchange that loses the node. -/
theorem missFor_loses {s : State} {r : Request} {a : Addr} (ha : r.address = some a) (hact : (s.entry a).state = .active)
    (hle : s.missLimit.toNat ≤ (s.entry a).missed.misses) (hn : (s.queue.map Request.ticket).Nodup)
    (h : 0 < (s.withVerdicts a .nodeLost).freeSlots) : s.missFor r = { s.withVerdicts a .nodeLost with
      roster := s.roster.set a.val { (s.entry a).missed with state := .lost, holdOff := none }
      ring := (s.withVerdicts a .nodeLost).ring ++ [.event { address := some a, unit := (s.entry a).unit, data := .lost }]
      cause := (s.withVerdicts a .nodeLost).cause ||| 0x01 } := by
  have hr : (s.entry a).state ≠ .releasing := by simp [hact]
  rw [Entry.missed, if_neg hr] at hle ⊢
  simp only [State.missFor, ha]
  rw [if_neg hr, addMiss_loses hact hle hn h]

/-- What an accepted answer to a READ or a WRITE sets (R3, R34). -/
theorem noteAnswer_request {f : Frame} {a : Addr} {s : State} (h : f.addressed = some a) (hk : f.kind = .read ∨ f.kind = .write)
    (answer : Answer) : s.noteAnswer f answer = s.setEntry a (match answer with
      | .ack _ | .refuse _ => { s.entry a with toggle := !(s.entry a).toggle, misses := 0 }
      | .wait => { s.entry a with holdOff := some s.holdOffTime.toNat }) := by
  rw [noteAnswer_addressed h]
  cases answer <;> rcases hk with k | k <;> simp [Entry.answered, keepsMisses, k]

/-- The confirm byte of a WRITE is compared with the check byte over its payload (R42). -/
theorem confirmFails_write {x : Exchange} {b : Byte} (h : x.shape = .write true) :
    confirmFails x (.ack [b]) = (b != checkByte x.frame.payload) := by
  simp [confirmFails, h]

/-- An ACK whose confirm byte is wrong fails the attempt, after its entry facts are set (R34, R42). -/
theorem acceptAnswer_unconfirmed {s : State} {x : Exchange} {answer : Answer} (h : confirmFails x answer = true) :
    s.acceptAnswer x answer = (s.noteAnswer x.frame answer).attemptFails x .confirm := by
  simp [State.acceptAnswer, h]

/-- The result of an exhausted exchange, by the reason of its last failure (R45). -/
theorem exhaustedResult_reason (reason : Failure) :
    exhaustedResult (reason == .sequence) = if reason = .sequence then .outOfStep else .noAnswer := by
  cases reason <;> rfl

/-- Settles O19: by the answer, and by whether the request goes on, is held or ends. -/
theorem answerEndsTheRequest : Obligations.AnswerEndsTheRequest := by
  intro s x r a ho _ hx hd hs hshape hk ha hp honline hra ends answer posted held accepted heldOff waits exhausts
  have hnot : x.source ≠ .clearDismiss := by simp [hs]
  have haddr := addressed_of_kind (by tauto) ha
  have hexpects : x.shape.expectsAnswer = true := by
    rcases hshape with ⟨n, k, -⟩ | ⟨c, k⟩ <;> simp [k, AnswerShape.expectsAnswer]
  have hwr : x.shape.acceptsWaitRefuse = true := by
    rcases hshape with ⟨n, k, -⟩ | ⟨c, k⟩ <;> simp [k, AnswerShape.acceptsWaitRefuse]
  have hz (p : List Byte) : unusedAreZero x.shape p = true := by
    rcases hshape with ⟨n, k, -⟩ | ⟨c, k⟩ <;> simp [k, unusedAreZero]
  have hnote (ans : Answer) := noteAnswer_request (s := s) haddr hk ans
  have hentry (e : Entry) : ({ s.setEntry a e with exchange := none } : State).entry a = e := State.entry_setEntry_self s a e
  have honl (e : Entry) : ({ s.setEntry a e with exchange := none } : State).queue.find? Request.isOnLine = some r := honline
  have hposted (e : Entry) (c : Completion) (reason : BitVec 4) (w : Nat) (p : List Byte) :
      ({ s.setEntry a e with exchange := none } : State).withRecord { r with waits := w } c reason p =
        { posted c reason w p e with exchange := none } := by
    simp only [State.withRecord, hra]
    rfl
  have hheld (e : Entry) (w : Nat) (he : e.state = (s.entry a).state) :
      ({ s.setEntry a e with exchange := none } : State).holdOrEnd { r with waits := w } =
        { held w e with exchange := none } := by
    rw [holdOrEnd_eq, hposted, hposted]
    have hrel : State.requestReleasing { s.setEntry a e with exchange := none } { r with waits := w } = true ↔
        (s.entry a).state = .releasing := by
      rw [requestReleasing_iff]
      refine ⟨fun ⟨b, hb, hst⟩ => ?_, fun h => ⟨a, hra, by rw [hentry, he]; exact h⟩⟩
      obtain rfl : a = b := by simpa [hra] using hb
      rwa [hentry, he] at hst
    simp only [hrel, held]
    split
    · rfl
    · split <;> rfl
  have hexhausts (c : Instr) (result : Completion) (e : Entry)
      (hc : ∀ v : State, (({ s.setEntry a e with exchange := none } : State).withRecord r result 0 []).missFor r =
        { v with exchange := none } → ends c v) : exhausts c result e := by
    have hp := hposted e result 0 r.waits []
    set w := ({ s.setEntry a e with exchange := none } : State).withRecord r result 0 []
    have hw : w.entry a = e := hentry e
    have hset (f : Entry) : w.setEntry a f = { posted result 0 r.waits [] f with exchange := none } := by
      rw [show w = _ from hp]
      simp [State.setEntry, posted]
    refine ⟨fun hlt => hc _ ?_, fun hact hle hn hocc hwait => hc _ ?_⟩
    · rw [missFor_counts hra (by rw [hw]; exact hlt), hw, hset]
      rfl
    · have hroom := freeSlots_pos hocc hwait
      rw [missFor_loses (s := w) hra (by rw [hw]; exact hact) (by rw [hw]; exact hle) (withRecord_tickets hn r result 0 [])
        (by rw [show w = _ from hp]; exact hroom), hw, show w = _ from hp]
      simp only [posted, Vector.set_set]
      rfl
  have hends {ans : Answer} {v : State} (hsuits : ans.suits x.shape = true) (hconfirm : confirmFails x ans = false)
      (hend : ({ s.noteAnswer x.frame ans with exchange := none } : State).requestEnd ans.toEnd =
        { v with exchange := none }) : ends (answer ans) v :=
    ends_accepted ho hx hd hnot hexpects hp hsuits (hz _) hconfirm (by rw [handEnd_dispatch hs]; exact hend)
  refine ⟨fun data hdata => ?_, fun b hb hne => ?_, fun reason hr => ?_, fun hle => ?_, fun hlt => ?_,
    fun hi hu c reason hf => hexhausts _ _ _ fun v hv => ?_⟩
  · have hsuits : (Answer.ack data).suits x.shape = true := by
      rcases hdata with ⟨n, k, hl⟩ | ⟨k, rfl⟩ | ⟨k, rfl⟩
      · rcases hshape with ⟨m, km, hm⟩ | ⟨c, km⟩
        · obtain rfl : m = n := by simpa [km] using k
          exact suits_ack (by omega) (by simpa [k, AnswerShape.acceptsAck] using hl)
        · simp [km] at k
      · exact suits_ack (by simp) (by simp [k, AnswerShape.acceptsAck])
      · exact suits_ack (by simp) (by simp [k, AnswerShape.acceptsAck])
    have hconfirm : confirmFails x (.ack data) = false := by
      rcases hdata with ⟨n, k, -⟩ | ⟨k, -⟩ | ⟨k, rfl⟩
      · exact confirmFails_other (by simp [k])
      · simp [confirmFails, k]
      · simp [confirmFails_write k]
    refine hends hsuits hconfirm ?_
    rw [hnote]
    exact (requestEnd_ack (honl accepted) data).trans (hposted accepted .done 0 r.waits data)
  · have hsuits : (Answer.ack [b]).suits x.shape = true := suits_ack (by simp) (by simp [hb, AnswerShape.acceptsAck])
    have hexec : exec (answer (.ack [b])) s = .next ((s.setEntry a accepted).attemptFails x .confirm) := by
      have h := exec_accepts ho.1 hx hexpects hp (judgeResponse_wire x.sentToggle hsuits (hz _))
      rw [acceptAnswer_unconfirmed (by rw [confirmFails_write hb]; simpa using hne), hnote] at h
      exact h
    refine ⟨fun hi hu => ?_, fun hi hu => hexhausts _ _ _ fun v hv => ⟨_, hexec, ?_⟩, fun hi => ⟨_, hexec, ?_⟩⟩
    · rw [hexec, attemptFails_gap .confirm hi hu]
      rfl
    · rw [attemptFails_exhausted .confirm hi hu hd hnot, handEnd_dispatch hs]
      have := (requestEnd_exhausted (honl accepted) false).trans hv
      rw [show (Failure.confirm == .sequence) = false from rfl, this]
      exact lineFreed_freed v
    · rw [attemptFails_interrupted .confirm hi hd hnot, handEnd_dispatch hs]
      have := (requestEnd_interrupted (honl accepted)).trans
        (hheld accepted r.waits rfl)
      rw [this]
      exact lineFreed_freed _
  · refine hends (suits_refuse hr hwr) (confirmFails_noAck (by simp)) ?_
    rw [hnote]
    exact (requestEnd_refuse (honl accepted) reason).trans (hposted accepted .refused reason r.waits [])
  · refine hends (suits_wait hwr) (confirmFails_noAck (by simp)) ?_
    rw [hnote]
    refine (requestEnd_wait (honl heldOff)).trans ?_
    rw [if_pos (by exact hle)]
    exact hposted heldOff .nodeBusy 0 waits []
  · refine hends (suits_wait hwr) (confirmFails_noAck (by simp)) ?_
    rw [hnote]
    refine (requestEnd_wait (honl heldOff)).trans ?_
    rw [if_neg (by exact Nat.not_le.mpr hlt)]
    exact hheld heldOff waits rfl
  · refine ends_exhausted ho hx hd hnot hf hi hu ?_
    rw [setEntry_entry, ← exhaustedResult_reason] at hv
    rw [handEnd_dispatch hs]
    exact (requestEnd_exhausted (s := { s with exchange := none }) honline _).trans hv

end Sys2Proof.Machine
end

section
/-! PROOF. Interrupted requests and line faults (O7), and LINE DISABLE (O6). -/

namespace Sys2Proof.Machine

/-! ## The work that is lost with the line -/

/-- The state in which the line's waiting work has ended (R162, R166). -/
def State.withWorkLost (s : State) : State := s.withRunLost.withNegotiationAbandoned

theorem withRunLost_idle (s : State) : s.withRunLost.censusState = .idle := by
  unfold State.withRunLost
  split
  · assumption
  · rfl

/-- No run is left to end. -/
theorem withRunLost_of_idle {s : State} (h : s.censusState = .idle) : s.withRunLost = s := by
  rw [State.withRunLost, if_pos h]

/-- No negotiation is left to abandon. -/
theorem withNegotiationAbandoned_of_none {s : State} (h : s.negotiation = none) : s.withNegotiationAbandoned = s := by
  rw [State.withNegotiationAbandoned, h]

theorem withNegotiationAbandoned_negotiation (s : State) : s.withNegotiationAbandoned.negotiation = none := by
  unfold State.withNegotiationAbandoned
  split
  · assumption
  · rfl

/-- A run that has ended is lost no second time. -/
theorem withWorkLost_run (s : State) : s.withRunLost.withWorkLost = s.withWorkLost := by
  rw [State.withWorkLost, withRunLost_of_idle (withRunLost_idle s), State.withWorkLost]

/-- A negotiation that has been abandoned is lost no second time. -/
theorem withWorkLost_negotiation (s : State) : s.withNegotiationAbandoned.withWorkLost = s.withWorkLost := by
  rw [State.withWorkLost, withRunLost_abandoned, withNegotiationAbandoned_of_none (withNegotiationAbandoned_negotiation _),
    State.withWorkLost]

/-- The work is lost whatever the line holds. -/
theorem withRunLost_line (s : State) (l : LineState) (x : Option Exchange) :
    ({ s with lineState := l, exchange := x } : State).withRunLost =
      { s.withRunLost with lineState := l, exchange := x } := by
  unfold State.withRunLost
  split <;> rfl

theorem withNegotiationAbandoned_line (s : State) (l : LineState) (x : Option Exchange) :
    ({ s with lineState := l, exchange := x } : State).withNegotiationAbandoned =
      { s.withNegotiationAbandoned with lineState := l, exchange := x } := by
  unfold State.withNegotiationAbandoned
  cases h : s.negotiation <;> simp [h, State.entry]

theorem withWorkLost_line (s : State) (l : LineState) (x : Option Exchange) :
    ({ s with lineState := l, exchange := x } : State).withWorkLost = { s.withWorkLost with lineState := l, exchange := x } := by
  rw [State.withWorkLost, withRunLost_line, withNegotiationAbandoned_line, State.withWorkLost]

/-- The waiting work leaves the requests and the exchange. -/
theorem withWorkLost_keeps (s : State) : s.withWorkLost.queue = s.queue ∧ s.withWorkLost.exchange = s.exchange ∧
    s.withWorkLost.lineState = s.lineState := by
  unfold State.withWorkLost State.withRunLost State.withNegotiationAbandoned
  split <;> split <;> exact ⟨rfl, rfl, rfl⟩

theorem withWorkLost_exchange (s : State) (x : Option Exchange) :
    ({ s with exchange := x } : State).withWorkLost = { s.withWorkLost with exchange := x } :=
  (withWorkLost_line s s.lineState x).trans (by rw [← (withWorkLost_keeps s).2.2])

/-! ## Interrupted and faulted exchanges -/

/-- NEGOTIATE is handed the end for the entry its frame addresses, if it has one. -/
theorem handEnd_negotiate {x : Exchange} (hs : x.source = .negotiate) (e : ExchangeEnd) (s : State) :
    s.handEnd x e = match x.frame.address with | some a => s.pageEnd a e | none => s := by
  unfold State.handEnd
  cases x.frame.address <;> simp [hs]

/-- CENSUS is handed the end of its exchange. -/
theorem handEnd_census {x : Exchange} (hs : x.source = .census) (e : ExchangeEnd) (s : State) :
    s.handEnd x e = s.censusEnd e := by
  unfold State.handEnd
  split <;> simp_all

/-- A PAGE that is interrupted or faulted abandons the negotiation in progress, or it is that of no negotiation (R85). -/
theorem pageEnd_ends {s : State} {a : Addr} {e : ExchangeEnd} (he : e = .interrupted ∨ e = .faulted) :
    s.pageEnd a e = if (s.negotiation.map Negotiation.address) = some a then s.withNegotiationAbandoned else s := by
  unfold State.pageEnd
  cases hn : s.negotiation with
  | none => simp
  | some n =>
    by_cases ha : n.address = a
    · rcases he with rfl | rfl <;> simp [ha, abandonNegotiation_eq]
    · simp [ha]

/-- A source other than DISPATCH does at most what the loss of the line does to its own work when its exchange is
interrupted or faulted (R19, R46, R66, R67, R85, R106). -/
theorem handEnd_withWorkLost {s : State} {x : Exchange} {e : ExchangeEnd} (he : e = .interrupted ∨ e = .faulted)
    (hs : x.source ≠ .dispatch) : (s.handEnd x e).withWorkLost = s.withWorkLost := by
  cases hsrc : x.source with
  | dispatch => exact absurd hsrc hs
  | census =>
    rw [handEnd_census hsrc]
    have : s.censusEnd e = s.withRunLost := by rcases he with rfl | rfl <;> exact endRunLine_eq s
    rw [this, withWorkLost_run]
  | negotiate =>
    rw [handEnd_negotiate hsrc]
    cases x.frame.address with
    | none => rfl
    | some a =>
      dsimp only
      rw [pageEnd_ends he]
      split
      · exact withWorkLost_negotiation s
      · rfl
  | release =>
    cases ha : x.frame.address <;> rcases he with rfl | rfl <;> simp [State.handEnd, hsrc, ha, State.releaseEnd]
  | sweep =>
    cases ha : x.frame.address <;> rcases he with rfl | rfl <;> simp [State.handEnd, hsrc, ha, State.pollEnd]
  | clearDismiss => rcases he with rfl | rfl <;> simp [State.handEnd, hsrc]

/-! ## Line faults -/

/-- A fault of an exchange that is neither discarded nor the CLEAR's own (R47, R166). -/
theorem lineFault_eq {s : State} {x : Exchange} (kind : FaultKind) (hx : s.exchange = some x) (hd : x.discard = false)
    (hs : x.source ≠ .clearDismiss) : s.lineFault kind =
      { (({ s with exchange := none } : State).handEnd x .faulted).withWorkLost with
        lineState := .fault, faultKind := kind
        cause := (({ s with exchange := none } : State).handEnd x .faulted).withWorkLost.cause ||| 0x08 } := by
  have hne : (x.source == .clearDismiss) = false := by simpa using hs
  simp only [State.lineFault, hx, hd, hne, loseLine_eq, Bool.false_eq_true, if_false, Bool.or_false]
  rfl

/-- The two events that find a fault of the exchange on the line (R164, R165). -/
theorem exec_faults {s : State} {x : Exchange} (hr : s.resetAsserted = false) (hx : s.exchange = some x)
    (hl : s.lineState = .busy ∨ s.lineState = .draining) :
    (x.phase = .lineCheck → exec .clearWaitExpiry s = .next (s.lineFault .stuck)) ∧
      (x.phase ≠ .lineCheck → exec .clockFault s = .next (s.lineFault .clock)) := by
  refine ⟨fun hp => ?_, fun hp => ?_⟩
  · simp [exec, execClearWaitExpiry, unlessReset_released hr, State.exchangeIn, hx, hp]
  · have hrec : s.lineState ≠ .recovering := by rcases hl with k | k <;> simp [k]
    have hclocks : x.phase.clocks = true := by cases hph : x.phase <;> simp_all [Phase.clocks]
    simp [exec, execClockFault, unlessReset_released hr, State.exchangeIn, hx, hrec, hclocks]

/-- Settles O7: what becomes of the request on the line, and a fault as the loss of all the work on the line. -/
theorem lineFaultsAndInterruptedRequests : Obligations.LineFaultsAndInterruptedRequests := by
  refine ⟨fun s x r c reason ho hx hs hi hd _ honline hf => ?_, fun s x ho hl hx hd hs => ?_⟩
  · intro releasing posted
    have hnot : x.source ≠ .clearDismiss := by simp [hs]
    have hends {v : State} (hv : ({ s with exchange := none } : State).holdOrEnd r = { v with exchange := none }) :
        v.LineFreed (({ s with exchange := none } : State).handEnd x .interrupted).lineFreed := by
      rw [handEnd_dispatch hs, requestEnd_interrupted (by exact honline), hv]
      exact lineFreed_freed v
    have hrel : State.requestReleasing { s with exchange := none } r = true ↔ releasing := requestReleasing_iff
    refine ⟨_, exec_failsBy ho.1 hx hf, ?_⟩
    rw [attemptFails_interrupted reason hi hd hnot]
    refine ⟨fun hab => hends ?_, fun hab hr => hends ?_, fun hab hr => hends ?_⟩
    · rw [holdOrEnd_eq, if_pos hab]
      rfl
    · rw [holdOrEnd_eq, if_neg (by simp [hab]), if_pos (hrel.mpr hr)]
      rfl
    · rw [holdOrEnd_eq, if_neg (by simp [hab]), if_neg (fun k => hr (hrel.mp k))]
      rfl
  · intro faulted leaves
    obtain ⟨hstuck, hclock⟩ := exec_faults ho.1 hx hl
    have hleaves {v : State} (hv : (({ s with exchange := none } : State).handEnd x .faulted).withWorkLost =
        { v.withWorkLost with exchange := none }) : leaves v := by
      have hfault (kind : FaultKind) : .next (s.lineFault kind) = faulted v kind := by
        rw [lineFault_eq kind hx hd hs, hv]
        rfl
      exact ⟨fun hp => (hstuck hp).trans (hfault .stuck), fun hp => (hclock hp).trans (hfault .clock)⟩
    refine ⟨fun hsrc => hleaves ?_, fun r hsrc honline => hleaves ?_⟩
    · rw [handEnd_withWorkLost (.inr rfl) hsrc]
      exact withWorkLost_exchange s none
    · rw [handEnd_dispatch hsrc, requestEnd_faulted (by exact honline)]
      exact withWorkLost_exchange (s.withRecord r .lineFault 0 []) none

/-! ## LINE DISABLE -/

/-- The work that is not on the line ends as the command is taken (R85, R162). -/
theorem disableWaiting_eq (s : State) : s.disableWaiting =
    if s.onLineOf .negotiate then (if s.onLineOf .census then s else s.withRunLost)
    else (if s.onLineOf .census then s else s.withRunLost).withNegotiationAbandoned := by
  rw [State.disableWaiting, endRunLine_eq]
  simp only [abandonNegotiation_eq]

/-- The exchange that a disable finds is a source's (R162). -/
theorem onLineOf_iff {s : State} {x : Exchange} (hx : s.exchange = some x) (source : Source) :
    s.onLineOf source = true ↔ x.source = source := by
  simp [State.onLineOf, hx]

/-- Of the entries, the waiting work changes that of the negotiation, to PENDING. -/
theorem withWorkLost_releasing {s : State} {a : Addr} :
    (s.withWorkLost.entry a).state = .releasing ↔
      (s.entry a).state = .releasing ∧ s.negotiation.map Negotiation.address ≠ some a := by
  have hrun : s.withRunLost.entry a = s.entry a ∧ s.withRunLost.negotiation = s.negotiation := by
    unfold State.withRunLost
    split <;> exact ⟨rfl, rfl⟩
  rw [State.withWorkLost, ← hrun.1, ← hrun.2]
  generalize s.withRunLost = u
  cases hn : u.negotiation with
  | none => simp [withNegotiationAbandoned_of_none hn]
  | some n =>
    have he : u.withNegotiationAbandoned.entry a =
        (u.setEntry n.address { u.entry n.address with state := .pending, due := false, pages := [] }).entry a := by
      refine State.entry_congr ?_ a
      simp [State.withNegotiationAbandoned, hn, State.setEntry]
    rw [he, State.entry_setEntry]
    by_cases ha : a = n.address
    · simp [ha]
    · simp [ha, Ne.symm ha]

/-- A disable on a BUSY line whose attempt or field goes on marks it (R46, R161). -/
theorem interrupt_completes {s : State} {x : Exchange} (hx : s.exchange = some x)
    (hp : x.phase = .command ∨ x.phase = .reply ∨ x.phase = .response ∨ x.phase = .field) :
    s.interrupt = { s with exchange := some { x with interruptTaken := true } } := by
  have : x.phase.completes = true := by rcases hp with k | k | k | k <;> simp [k, Phase.completes]
  simp [State.interrupt, hx, this]

/-- In RETRY GAP and LINE CHECK the exchange ends interrupted at once (R46). -/
theorem interrupt_ends {s : State} {x : Exchange} (hx : s.exchange = some x) (hd : x.discard = false)
    (hs : x.source ≠ .clearDismiss) (hp : x.phase = .retryGap ∨ x.phase = .lineCheck) :
    s.interrupt = (({ s with exchange := none } : State).handEnd x .interrupted).lineFreed := by
  have : x.phase.completes = false := by rcases hp with k | k <;> simp [k, Phase.completes]
  simp only [State.interrupt, hx, this, Bool.false_eq_true, if_false]
  exact endExchange_handed (x := { x with interruptTaken := true }) _ rfl hd hs

/-- The waiting work of a disable leaves the exchange. -/
theorem disableWaiting_exchange (s : State) : s.disableWaiting.exchange = s.exchange := by
  have h1 : (if s.onLineOf .census then s else s.endRunLine).exchange = s.exchange := by
    split
    · rfl
    · exact (endRunLine_sameLine s).exchange
  unfold State.disableWaiting
  dsimp only
  split
  · exact h1
  · exact (abandonNegotiation_sameLine _).exchange.trans h1

/-- A disable of a line that is not BUSY switches it off (R160). -/
theorem disableLine_quiet {s : State} (h : s.lineState ≠ .busy) (hx : s.exchange = none) :
    s.disableLine = s.withWorkLost.switchedOff := by
  have hw : s.disableWaiting = s.withWorkLost := by
    rw [disableWaiting_eq]
    simp [State.onLineOf, hx, State.withWorkLost]
  have hnone : s.withWorkLost.exchange = none := (withWorkLost_keeps s).2.1.trans hx
  rw [State.disableLine, if_neg h, hw, State.switchedOff, ← hnone]
  rfl

/-- What a disable of a BUSY line has done before it reaches the exchange (R85, R162). -/
theorem disableWaiting_busy {s : State} {x : Exchange} (hx : s.exchange = some x) : s.disableWaiting =
    if x.source = .census then s.withNegotiationAbandoned
    else if x.source = .negotiate then s.withRunLost else s.withWorkLost := by
  rw [disableWaiting_eq]
  simp only [onLineOf_iff hx]
  by_cases hc : x.source = .census
  · simp [hc]
  · simp [hc, State.withWorkLost]

/-- A DRAINING line that is freed is OFF (R161). -/
theorem lineFreed_draining {s : State} (h : s.lineState = .draining) : ({ s with exchange := none } : State).lineFreed =
    s.switchedOff := by
  simp [State.lineFreed, h, State.switchedOff, State.setCause, Cause.bit]

/-- The work of a source other than DISPATCH whose exchange a disable interrupts at once is lost with the line (R66, R85,
R106, R162). -/
theorem handEnd_disabled {s : State} {x : Exchange} (hx : s.exchange = some x) (hs : x.source ≠ .dispatch)
    (hc : x.source ≠ .clearDismiss)
    (hneg : ∀ n, x.source = .negotiate → s.negotiation = some n → x.frame.address = some n.address) :
    ({ s.disableWaiting with lineState := .draining, exchange := none } : State).handEnd x .interrupted =
      { s.withWorkLost with lineState := .draining, exchange := none } := by
  rw [disableWaiting_busy hx]
  cases hsrc : x.source with
  | dispatch => exact absurd hsrc hs
  | clearDismiss => exact absurd hsrc hc
  | census =>
    rw [handEnd_census hsrc, if_pos rfl, State.censusEnd, endRunLine_eq, withRunLost_line, withRunLost_abandoned]
    rfl
  | negotiate =>
    rw [handEnd_negotiate hsrc, if_neg (by simp), if_pos rfl]
    have hrun : s.withRunLost.negotiation = s.negotiation := by
      unfold State.withRunLost
      split <;> rfl
    cases hn : s.negotiation with
    | none =>
      rw [State.withWorkLost, withNegotiationAbandoned_of_none (hrun.trans hn)]
      cases x.frame.address with
      | none => rfl
      | some a =>
        dsimp only
        rw [pageEnd_ends (.inl rfl), if_neg (by simp [hrun, hn])]
    | some n =>
      rw [hneg n hsrc hn]
      dsimp only
      rw [pageEnd_ends (.inl rfl), if_pos (by simp [hrun, hn]), withNegotiationAbandoned_line]
      rfl
  | release =>
    rw [if_neg (by simp), if_neg (by simp)]
    cases ha : x.frame.address <;> simp [State.handEnd, hsrc, ha, State.releaseEnd]
  | sweep =>
    rw [if_neg (by simp), if_neg (by simp)]
    cases ha : x.frame.address <;> simp [State.handEnd, hsrc, ha, State.pollEnd]

/-- Settles O6: by what stands on the line, and by the source whose exchange does. -/
theorem lineDisable : Obligations.LineDisable := by
  intro s ho taken lost
  have hdisable (hl : s.lineState ≠ .off) (hl' : s.lineState ≠ .draining) (hl'' : s.lineState ≠ .recovering) {t : State}
      (ht : s.disableLine = t) : exec .lineDisable s = taken t := by
    have hcheck : (s.lineState == .off || s.lineState == .draining || s.lineState == .recovering) = false := by
      simp [hl, hl', hl'']
    have : exec .lineDisable s = .next (s.command none s.disableLine) := by
      show Host.Outcome.next (s.command (firstRefusal _) s.disableLine) = _
      rw [hcheck]
      rfl
    rw [this, command_taken _ _ ho.1 ho.2, ht]
    rfl
  refine ⟨fun hl => ?_, fun hl hx => ?_, fun x hb hx hd hs hneg => ?_⟩
  · refine refuses_of_command (r := .wrongLineState) (v := 0) (effect := s.disableLine) ho ?_
    have hcheck : (s.lineState == .off || s.lineState == .draining || s.lineState == .recovering) = true := by
      rcases hl with k | k | k <;> simp [k]
    show Host.Outcome.next (s.command (firstRefusal _) s.disableLine) = _
    rw [hcheck]
    rfl
  · exact hdisable (by rcases hl with k | k <;> simp [k]) (by rcases hl with k | k <;> simp [k])
      (by rcases hl with k | k <;> simp [k]) (disableLine_quiet (by rcases hl with k | k <;> simp [k]) hx)
  · intro waiting
    have htaken {t : State} (ht : s.disableLine = t) : exec .lineDisable s = taken t :=
      hdisable (by simp [hb]) (by simp [hb]) (by simp [hb]) ht
    have hline : s.disableLine = ({ s.disableWaiting with lineState := .draining } : State).interrupt := by
      rw [State.disableLine, if_pos hb]
    have hxw : ({ s.disableWaiting with lineState := .draining } : State).exchange = some x :=
      (disableWaiting_exchange s).trans hx
    refine ⟨fun hp => htaken ?_, fun hp => ?_⟩
    · rw [hline, interrupt_completes hxw hp, disableWaiting_busy hx]
      rfl
    · rw [interrupt_ends hxw hd hs hp] at hline
      refine ⟨fun hsrc => htaken ?_, fun r hsrc honline hab => ?_⟩
      · rw [hline]
        refine (congrArg State.lineFreed (handEnd_disabled hx hsrc hs hneg)).trans ?_
        exact lineFreed_draining (s := { s.withWorkLost with lineState := .draining }) rfl
      · have hwork : s.disableWaiting = lost := by
          rw [disableWaiting_busy hx, if_neg (by simp [hsrc]), if_neg (by simp [hsrc])]
          rfl
        have hqueue : lost.queue = s.queue := (withWorkLost_keeps s).1
        have hends : s.disableLine = (({ lost with lineState := .draining, exchange := none } : State).holdOrEnd r).lineFreed := by
          rw [hline, handEnd_dispatch hsrc, requestEnd_interrupted (r := r), hwork]
          exact (congrArg (List.find? Request.isOnLine) ((congrArg State.queue hwork).trans hqueue)).trans honline
        rw [holdOrEnd_eq, if_neg (by simp [hab])] at hends
        have hrel : State.requestReleasing { lost with lineState := .draining, exchange := none } r = true ↔
            ∃ a, r.address = some a ∧ (s.withWorkLost.entry a).state = .releasing := requestReleasing_iff
        refine ⟨fun hnone => htaken ?_, fun a ha hst hn => htaken ?_⟩
        · rw [if_neg] at hends
          · rw [hends, ← hqueue]
            exact lineFreed_draining (s := State.withHeld r { lost with lineState := .draining }) rfl
          · rw [hrel]
            rintro ⟨a, ha, hst⟩
            exact hnone a ha (withWorkLost_releasing.mp hst).1
        · rw [if_pos (hrel.mpr ⟨a, ha, withWorkLost_releasing.mpr ⟨hst, hn⟩⟩)] at hends
          rw [hends, ← hqueue, ← ha, ← hab]
          exact lineFreed_draining (s := State.withRecord r .released 0 [] { lost with lineState := .draining }) rfl

end Sys2Proof.Machine
end

section
/-! PROOF. The census and its CLAIMs: grants to RELEASE and to CENSUS (O42), and accepted CLAIMs
of a new unit (O12) and of a rejoin (O13). -/

namespace Sys2Proof.Machine

/-! ## LINE CHECKs of new exchanges -/

/-- A new exchange that is no CLAIM and not DISPATCH's takes the line (R36, R48, R164). -/
theorem openExchange_new {s : State} {source : Source} {frame : Frame} {shape : AnswerShape} {allowed : Nat} (mda : Level)
    (hk : frame.kind ≠ .claim) (hs : source ≠ .dispatch) (ht : s.toggleFor frame = frame.toggle) :
    s.openExchange (newExchange source frame shape allowed) mda = { s with
      lineState := .busy
      lineRateInForce := if mda = .recessive then s.lineRate else s.lineRateInForce
      exchange := some {
        source := source, frame := frame, sentToggle := frame.toggle, shape := shape, allowed := allowed
        used := if mda = .recessive then 1 else 0, phase := if mda = .recessive then .command else .lineCheck
        lastFailure := none, interruptTaken := false, discard := false } } := by
  cases mda with
  | dominant => rfl
  | recessive =>
    have hx : ({ s with lineState := .busy } : State).exchangeAtLeadIn (newExchange source frame shape allowed) =
        { newExchange source frame shape allowed with phase := .command, used := 1 } := by
      have ht' : State.toggleFor { s with lineState := .busy } frame = frame.toggle := ht
      simp [State.exchangeAtLeadIn, newExchange, hk, ht']
    rw [State.openExchange, State.lineCheck, State.leadIn, hx]
    dsimp only
    rw [if_neg (by exact hs)]
    rfl

/-! ## Grants to RELEASE and to CENSUS -/

/-- The yield is all that the arbiter may settle before its grant (R55). -/
theorem settleYield_noYield (s : State) : ({ s.settleYield with yield := false } : State) = { s with yield := false } := by
  unfold State.settleYield
  split <;> rfl

/-- The first entry that satisfies a test. -/
theorem findEntry?_first {s : State} {p : Entry → Bool} {a : Addr} (ha : p (s.entry a) = true)
    (hb : ∀ b : Addr, b < a → p (s.entry b) = false) : s.findEntry? p = some a :=
  find?_finRange (p := fun a => p (s.entry a)) ha hb

theorem exec_lineGrant {s : State} (mda : Level) (h : s.Granting) : exec (.lineGrant mda) s = .next (s.grant mda) := by
  show Host.Outcome.next (s.unlessReset _) = _
  rw [unlessReset_released h.1.1, if_pos ⟨h.2, h.1.2⟩]

/-- A grant to RELEASE goes to the entry chosen (R18, R50). -/
theorem grant_release {s : State} {a : Addr} (mda : Level) (ha : s.settleYield.releaseChoice = some a) :
    s.grant mda = s.settleYield.grantRelease a mda := by
  have hg : s.settleYield.grantChoice = some .release := by
    simp [State.grantChoice, State.releaseReady, ha]
  unfold State.grant
  dsimp only
  rw [hg]
  dsimp only
  rw [ha]

/-- A grant to CENSUS comes after RELEASE and before the other sources (R50). -/
theorem grant_census {s : State} (mda : Level) (hr : s.settleYield.releaseReady = false)
    (hc : s.settleYield.censusReady = true) : s.grant mda = s.settleYield.grantCensus mda := by
  have hg : s.settleYield.grantChoice = some .census := by
    simp [State.grantChoice, hr, hc]
  unfold State.grant
  dsimp only
  rw [hg]

/-- Settles O42: RELEASE comes first and CENSUS second, and neither reads what the arbiter settles about the yield. -/
theorem grantsToReleaseAndCensus : Obligations.GrantsToReleaseAndCensus := by
  intro s mda h granted
  refine ⟨fun a ha hh hb => ?_, fun hr hrun hround hyield => ?_⟩
  · have hroster : s.settleYield.roster = s.roster := by
      unfold State.settleYield
      split <;> rfl
    have hentry (b : Addr) : s.settleYield.entry b = s.entry b := State.entry_congr hroster b
    have hchoice : s.settleYield.releaseChoice = some a := by
      refine findEntry?_first ?_ fun b hlt => ?_
      · simp [hentry, ha, Entry.inHoldOff, hh]
      · rcases hb b hlt with k | k
        · simp [hentry, k]
        · simp [hentry, Entry.inHoldOff, Option.isSome_iff_ne_none.mpr k]
    have hsame : s.settleYield.grantRelease a mda = s.grantRelease a mda := by
      unfold State.grantRelease
      rw [settleYield_noYield, State.addressedFrame, hentry]
      unfold State.settleYield
      split <;> rfl
    rw [exec_lineGrant mda h, grant_release mda hchoice, hsame, State.grantRelease,
      openExchange_new mda (by simp [State.addressedFrame]) (by simp) rfl]
    rfl
  · have hset : s.settleYield = { s with yield := false } := by
      unfold State.settleYield
      cases hy : s.yield with
      | true => rw [if_pos ⟨h.2, rfl, by simp [hyield hy]⟩]
      | false => rw [if_neg (by simp), ← hy]
    have hready : s.settleYield.censusReady = true := by
      rw [hset]
      simp [State.censusReady, hrun, hround]
    have hgrant : exec (.lineGrant mda) s = .next (({ s with yield := false } : State).grantCensus mda) := by
      rw [exec_lineGrant mda h, grant_census mda (by rw [hset]; exact hr) hready, hset]
    refine ⟨fun hd => ?_, fun hd => ?_⟩
    · rw [hgrant, State.grantCensus, if_pos (by exact hd), openExchange_new mda (by simp [allCallFrame]) (by simp) rfl]
      rfl
    · rw [hgrant, State.grantCensus, if_neg (by simp [hd]), openExchange_new mda (by simp [allCallFrame]) (by simp) rfl]
      rfl

/-! ## Accepted CLAIMs -/

/-- An accepted CLAIM takes effect, the round is over and the line is freed (R55, R62, R65, R66). -/
theorem ends_claim {s v : State} {x : Exchange} (ho : s.Open) (hx : s.exchange = some x) (hd : x.discard = false)
    (hs : x.source = .census) (hshape : x.shape = .claim) (hk : x.frame.kind = .claim) (ht : x.sentToggle = false)
    (hp : x.phase = .reply) (hclaim : ({ s with exchange := none } : State).claimAccepted = { v with exchange := none }) :
    ∃ t, exec (.responseFrame ((Answer.ack []).wire false) .recessive) s = .next t ∧ ({ v with
      failures := if s.lineState = .draining then s.failures else 0 } : State).RoundOver t := by
  have hplain : x.frame.addressed = none := by simp [Frame.addressed, hk]
  have hj := judgeResponse_wire (shape := x.shape) (answer := .ack []) x.sentToggle
    (suits_ack (by simp) (by simp [hshape, AnswerShape.acceptsAck])) (by simp [hshape, unusedAreZero])
  rw [show (Answer.ack []).wire x.sentToggle = (Answer.ack []).wire false by rw [ht]] at hj
  refine ⟨_, exec_accepts ho.1 hx (by simp [hshape, AnswerShape.expectsAnswer]) (.inr hp) hj, ?_⟩
  rw [acceptAnswer_ends hx (confirmFails_other (by simp [hshape])) hd (by simp [hs]), noteAnswer_plain hplain,
    handEnd_census hs]
  have hsucceeds : ({ s with exchange := none } : State).censusEnd (Answer.ack []).toEnd =
      ({ ({ v with failures := if s.lineState = .draining then s.failures else 0 } : State) with
        exchange := none } : State).afterRound := by
    show State.afterRound _ = _
    rw [hclaim]
  rw [hsucceeds]
  exact afterRound_roundOver _

/-- Settles O12: the accepted CLAIM creates the entry, and the round is over. -/
theorem acceptedClaimCreatesEntry : Obligations.AcceptedClaimCreatesEntry := by
  intro s x u a ho _ hx hd hs hshape hk ht hp hround ha
  have hclaim : ({ s with exchange := none } : State).claimAccepted = { ({ s with
      claims := min 255 (s.claims + 1), fifo := s.fifo ++ [a]
      roster := s.roster.set a.val { Entry.empty with state := .pending, unit := u } } : State) with exchange := none } := by
    have hcreate : ({ s with exchange := none } : State).claimAccepted =
        State.createEntry u a { s with exchange := none } := by
      simp [State.claimAccepted, hround]
    rw [hcreate, State.createEntry, appendFifo_eq, appendFifo_fifo, if_neg (by exact ha)]
    rfl
  exact ends_claim ho hx hd hs hshape hk ht hp hclaim

/-! ## The rejoin -/

/-- The state that an accepted rejoin leaves before RESTARTED is raised (R11). -/
def State.rejoining (a : Addr) (s : State) : State := { s.withVerdicts a .nodeRestarted with
  claims := min 255 (s.claims + 1)
  negotiation := if s.negotiating = some a then none else s.negotiation
  active := if s.negotiating = some a ∧ s.commitPending = true then s.shadow else s.active
  commitPending := if s.negotiating = some a then false else s.commitPending
  fifo := if a ∈ s.fifo then s.fifo else s.fifo ++ [a]
  roster := s.roster.set a.val
    { Entry.empty with state := .pending, unit := (s.entry a).unit, terms := (s.entry a).terms }
  stores := s.stores.set a.val { s.store a with condition := none, attention := none }
  cause := (s.withVerdicts a .nodeRestarted).cause |||
    if s.negotiating = some a ∧ s.commitPending = true then 0x04 else 0 }

/-- An accepted rejoin on a queue whose tickets are distinct (R11). -/
theorem rejoin_eq (a : Addr) (s : State) (hn : (s.queue.map Request.ticket).Nodup) :
    s.rejoin a = (s.rejoining a).raiseAt a .restarted := by
  rw [State.rejoin, giveAddressVerdicts_eq _ _ _ hn, endNegotiationOf_ends, appendFifo_eq, appendFifo_fifo]
  rfl

/-- The record of a rejoin (R5, R11, R145). -/
def State.restartedEvent (a : Addr) (s : State) : EventRecord :=
  { address := some a, unit := (s.entry a).unit, data := .restarted }

/-- The rejoined entry keeps its unit number, which RESTARTED carries (R11). -/
theorem rejoining_raiseAt (a : Addr) (s : State) :
    (s.rejoining a).raiseAt a .restarted = (s.rejoining a).raise (s.restartedEvent a) := by
  have hunit : ((s.rejoining a).entry a).unit = (s.entry a).unit := by simp [State.rejoining, State.entry]
  rw [State.raiseAt, hunit, State.restartedEvent]

/-- A rejoin posts RESTARTED where a slot is free (R11, R147). -/
theorem rejoin_room {a : Addr} {s : State} (hn : (s.queue.map Request.ticket).Nodup) (h : 0 < (s.rejoining a).freeSlots) :
    s.rejoin a = { s.rejoining a with
      ring := (s.rejoining a).ring ++ [.event (s.restartedEvent a)], cause := (s.rejoining a).cause ||| 0x01 } := by
  rw [rejoin_eq a s hn, rejoining_raiseAt, raise_eq rfl, if_pos h]

/-- A rejoin that finds no slot free leaves RESTARTED in the status slot (R11, R147, R149). -/
theorem rejoin_full {a : Addr} {s : State} (hn : (s.queue.map Request.ticket).Nodup) (h : ¬0 < (s.rejoining a).freeSlots) :
    s.rejoin a = { s.rejoining a with
      stores := s.stores.set a.val { status := some (s.restartedEvent a), condition := none, attention := none }
      cause := (s.rejoining a).cause ||| if (s.rejoining a).waiting = 0 then 0x80 else 0 } := by
  have hstores : (s.rejoining a).stores.set a.val (((s.rejoining a).store a).place (s.restartedEvent a)) =
      s.stores.set a.val { status := some (s.restartedEvent a), condition := none, attention := none } := by
    simp [State.rejoining, State.store, Store.place, State.restartedEvent]
  rw [rejoin_eq a s hn, rejoining_raiseAt, raise_eq rfl, if_neg h, hstores]

/-- The CLAIM of a rejoin takes effect unless a RELEASE came before it (R11, R69). -/
theorem claimAccepted_rejoin {s : State} {u : UnitNumber} {a : Addr} (hround : s.round = some (.claim u a true)) :
    s.claimAccepted = if (s.entry a).state = .releasing then s.claimReleasing a else s.rejoin a := by
  rw [State.claimAccepted, hround]

/-- Settles O13: by whether a RELEASE came before the accepted CLAIM, and by whether RESTARTED finds a free slot. -/
theorem rejoinRestartsTheEntry : Obligations.RejoinRestartsTheEntry := by
  intro s x u a ho _ hx hd hs hshape hk ht hp hround hn counted told ends emptied left restarted rejoined
  have hexec {v : State} (hv : ({ s with exchange := none } : State).claimAccepted = { v with exchange := none }) :=
    ends_claim ho hx hd hs hshape hk ht hp hv
  have haccepted := claimAccepted_rejoin (s := { s with exchange := none }) hround
  by_cases hrel : (s.entry a).state = .releasing
  · obtain ⟨t, het, hover⟩ := hexec (v := { s with
      roster := s.roster.set a.val { s.entry a with toggle := false }, claims := min 255 (s.claims + 1) })
      (haccepted.trans (if_pos hrel))
    exact ⟨t, het, fun k => absurd hrel k, fun _ => hover⟩
  · have hrejoin := haccepted.trans (if_neg hrel)
    have hfree : (State.rejoining a { s with exchange := none }).freeSlots = left.freeSlots := rfl
    by_cases hroom : 0 < left.freeSlots
    · rw [rejoin_room (s := { s with exchange := none }) hn (hfree ▸ hroom)] at hrejoin
      obtain ⟨t, het, hover⟩ := hexec (v := { rejoined (s.stores.set a.val emptied)
        (told.ring ++ [.event restarted]) 0x01 with failures := s.failures }) (hrejoin.trans (by rfl))
      refine ⟨t, het, fun _ => ⟨fun _ _ => hover, fun hfull => ?_⟩, fun k => absurd k hrel⟩
      rw [State.freeSlots] at hroom
      split at hroom <;> omega
    · rw [rejoin_full (s := { s with exchange := none }) hn (hfree ▸ hroom)] at hrejoin
      obtain ⟨t, het, hover⟩ := hexec (v := { rejoined (s.stores.set a.val { emptied with status := some restarted })
        told.ring (if left.waiting = 0 then 0x80 else 0) with failures := s.failures })
        (hrejoin.trans (by rfl))
      exact ⟨t, het, fun _ => ⟨fun hfree hwait => absurd (freeSlots_pos hfree hwait) hroom, fun _ => hover⟩,
        fun k => absurd k hrel⟩

end Sys2Proof.Machine
end

section
/-! PROOF. A winning unit number: the address it is assigned and its CLAIM (O11). -/

namespace Sys2Proof.Machine

/-! ## The CLAIM of a round -/

/-- The state in which a round's exchange has become the CLAIM of a unit number (R36, R60, R61, R164). -/
def State.withClaim (x : Exchange) (u : UnitNumber) (mda : Level) (a : Addr) (rejoin : Bool) (s : State) : State := { s with
  round := some (.claim u a rejoin)
  lineRateInForce := if mda = .recessive then s.lineRate else s.lineRateInForce
  exchange := some { x with
    frame := claimFrame u a
    sentToggle := false, shape := .claim, allowed := 1 + s.retryLimit.toNat, lastFailure := none
    used := if mda = .recessive then 1 else 0, phase := if mda = .recessive then .command else .lineCheck } }

/-- A CLAIM is put on the line by the LINE CHECK of its round's exchange (R61, R164). -/
theorem lineCheck_claim {x : Exchange} (u : UnitNumber) (a : Addr) (rejoin : Bool) (mda : Level) (s : State)
    (hs : x.source = .census) :
    { s with round := some (.claim u a rejoin) }.lineCheck (claimExchange u a s.attemptsAllowed x) mda =
      s.withClaim x u mda a rejoin := by
  cases mda with
  | dominant => rfl
  | recessive =>
    have hsource : (claimExchange u a s.attemptsAllowed x).source ≠ .dispatch := by simp [claimExchange, hs]
    show State.leadIn _ _ = _
    rw [State.leadIn, if_neg hsource]
    rfl

/-! ## Address assignment -/

/-- The binding of a unit number is the first row that holds it (R8, R13). -/
theorem bindingOfUnit?_first {s : State} {u : UnitNumber} {i : Fin 8} {w : Binding} (hi : s.bindings[i.val] = some w)
    (hw : w.unit = u) (hj : ∀ j : Fin 8, j < i → ∀ y, s.bindings[j.val] = some y → y.unit ≠ u) :
    s.bindingOfUnit? u = some w := by
  have hrow : s.bindings.toList.find? (fun row => row.any fun b => b.unit == u) = some (some w) := by
    rw [List.find?_eq_some_iff_getElem]
    refine ⟨by simp [hw], i.val, by simp, by simpa using hi, fun j hlt => ?_⟩
    cases hy : s.bindings[j] with
    | none => simp [hy]
    | some y => simpa [hy] using hj ⟨j, by omega⟩ hlt y hy
  simp [State.bindingOfUnit?, State.boundRows, List.find?_filterMap, hrow]

/-- A unit number that no row holds has no binding. -/
theorem bindingOfUnit?_none {s : State} {u : UnitNumber}
    (h : ∀ i : Fin 8, ∀ w, s.bindings[i.val] = some w → w.unit ≠ u) : s.bindingOfUnit? u = none := by
  rw [State.bindingOfUnit?, List.find?_eq_none]
  intro b hb
  obtain ⟨i, hi⟩ := mem_boundRows.mp hb
  simpa using h i b hi

/-- The address is not free for a new unit number: its entry is in use, a row binds it, or an event waits (R8). -/
def State.AddressTaken (s : State) (a : Addr) : Prop := (s.entry a).state ≠ .free ∨
  (∃ i : Fin 8, ∃ w, s.bindings[i.val] = some w ∧ w.address = a) ∨ s.store a ≠ Store.empty

/-- A store holds nothing exactly where it is empty. -/
theorem occupied_eq_zero (st : Store) : st.occupied = 0 ↔ st = Store.empty := by
  obtain ⟨status, condition, attention⟩ := st
  cases status <;> cases condition <;> cases attention <;> simp [Store.occupied, Store.empty]

/-- The search of R8 passes over exactly the addresses that are taken. -/
theorem isFreeFor_eq_false {s : State} {a : Addr} :
    ((s.entry a).state == .free && !s.isBound a && (s.store a).occupied == 0) = false ↔ s.AddressTaken a := by
  have hbound : s.isBound a = true ↔ ∃ i : Fin 8, ∃ w, s.bindings[i.val] = some w ∧ w.address = a := by
    rw [State.isBound, any_boundRows]
    simp only [beq_iff_eq]
  simp only [State.AddressTaken, ← hbound, Bool.and_eq_false_iff, Bool.not_eq_false', beq_eq_false_iff_ne, Ne,
    occupied_eq_zero, or_assoc]

/-- A unit number that is not bound is assigned the lowest address that is free for it (R8). -/
theorem newAddress_lowest {s : State} {u : UnitNumber} {a : Addr} (hu : s.bindingOfUnit? u = none) (ha : ¬s.AddressTaken a)
    (hb : ∀ b : Addr, b < a → s.AddressTaken b) : s.newAddress u = some a := by
  rw [State.newAddress, hu]
  exact find?_finRange (by rwa [← isFreeFor_eq_false, Bool.not_eq_false] at ha)
    fun b hlt => isFreeFor_eq_false.mpr (hb b hlt)

/-- Where every address is taken, none is assigned to a unit number that is not bound (R8). -/
theorem newAddress_full {s : State} {u : UnitNumber} (hu : s.bindingOfUnit? u = none) (h : ∀ a : Addr, s.AddressTaken a) :
    s.newAddress u = none := by
  rw [State.newAddress, hu, List.find?_eq_none]
  exact fun a _ => by simpa only [Bool.not_eq_true] using isFreeFor_eq_false.mpr (h a)

/-! ## The winning field -/

/-- A winning unit number that holds no entry: a new address is assigned and claimed, or the run ends (R8, R60, R65). -/
def State.placeNew (x : Exchange) (u : UnitNumber) (mda : Level) (s : State) : State :=
  match s.newAddress u with
  | none => s.closeField fun t => t.roundEndsRun .rosterFull u
  | some a => s.withClaim x u mda a false

section
variable {s : State} {x : Exchange} {u : UnitNumber} (mda : Level)

/-- A field that holds a unit number with its check byte is judged by the holder of that number (R8, R59, R60). -/
theorem judgeField_wins (hs : x.source = .census) (hu : u ≠ 0xFFFFFFFFFF) :
    s.judgeField x u (checkByte (unitBytes u)) mda = match s.holderOf u with
      | none => s.placeNew x u mda
      | some a => if (s.entry a).state = .releasing then (s.becomeFree a false).placeNew x u mda
        else s.withClaim x u mda a true := by
  rw [State.judgeField, if_neg (show u ≠ Config.allOnes from hu), if_neg (by simp),
    State.assignAddress]
  cases s.holderOf u with
  | none =>
    simp only [State.placeNew]
    cases s.newAddress u with
    | none => rfl
    | some a => exact lineCheck_claim u a false mda s hs
  | some a =>
    by_cases hr : (s.entry a).state = .releasing
    · simp only [State.placeNew, hr, if_true]
      cases (s.becomeFree a false).newAddress u with
      | none => rfl
      | some b => exact lineCheck_claim u b false mda _ hs
    · simp only [hr, if_false]
      exact lineCheck_claim u a true mda s hs

/-- The field of a round on a BUSY line that no interruption has reached (R60). -/
theorem exec_fieldEnd (check : Byte) (h : s.Carries x) (hshape : x.shape = .field)
    (hp : x.phase = .command ∨ x.phase = .field) :
    exec (.fieldEnd u check mda) s = .next (s.judgeField x u check mda) := by
  obtain ⟨ho, -, hx, hint, -⟩ := h
  have hin : s.exchangeIn (fun x => (x.phase == .command || x.phase == .field) && x.shape == .field) = some x := by
    rcases hp with hp | hp <;> simp [State.exchangeIn, hx, hp, hshape]
  show Host.Outcome.next (s.unlessReset _) = _
  rw [unlessReset_released ho.1, hin]
  dsimp only
  rw [if_neg (by simp [hint])]

/-- Where no address is found, the round ends the run and the line is freed (R48, R65). -/
theorem placeNew_full (h : s.newAddress u = none) :
    (s.censusState = .running → (s.withRunEnded .rosterFull u).LineFreed (s.placeNew x u mda)) ∧
    (s.censusState = .stopping → (s.withRunEnded .stopped 0).LineFreed (s.placeNew x u mda)) := by
  have hplace : s.placeNew x u mda = (State.roundEndsRun .rosterFull u { s with exchange := none }).lineFreed := by
    rw [State.placeNew, h]
    rfl
  rw [hplace, State.roundEndsRun]
  simp only [endRun_eq]
  refine ⟨fun hrun => ?_, fun hstop => ?_⟩
  · rw [if_neg (by simp [hrun])]
    exact lineFreed_freed (s.withRunEnded .rosterFull u)
  · rw [if_pos (by exact hstop)]
    exact lineFreed_freed (s.withRunEnded .stopped 0)

theorem placeNew_some {a : Addr} (h : s.newAddress u = some a) : s.placeNew x u mda = s.withClaim x u mda a false := by
  rw [State.placeNew, h]

end

/-- Settles O11: by the holder of the winning unit number, and then by the address that R8 finds for it. -/
theorem winningUnitIsClaimed : Obligations.WinningUnitIsClaimed := by
  intro s x u mda hc hs hshape hp hu claimed taken placed
  have hexec := (exec_fieldEnd (u := u) mda (checkByte (unitBytes u)) hc hshape hp).trans
    (congrArg _ (judgeField_wins mda hs hu))
  have hplaced (v : State) (hv : ∀ a rejoin, v.withClaim x u mda a rejoin = claimed v a rejoin) :
      placed v (v.placeNew x u mda) := by
    refine ⟨fun i w hi hw hj => ?_, fun hnone => ?_⟩
    · have hnew : v.newAddress u = some w.address := by rw [State.newAddress, bindingOfUnit?_first hi hw hj]
      exact (placeNew_some mda hnew).trans (hv _ _)
    · have hunbound := bindingOfUnit?_none hnone
      exact ⟨fun a ha hb => (placeNew_some mda (newAddress_lowest hunbound ha hb)).trans (hv _ _),
        fun hfull => placeNew_full mda (newAddress_full hunbound hfull)⟩
  refine ⟨_, hexec, fun a ha hau hb => ?_, fun hnone => ?_⟩
  · have hholder : s.holderOf u = some a := by
      refine findEntry?_first (by simp [ha, hau]) fun b hlt => ?_
      rcases hb b hlt with k | k <;> simp [k]
    rw [hholder]
    refine ⟨fun hr => if_neg hr, fun hr hocc hwait => ?_⟩
    dsimp only
    rw [if_pos hr, becomeFree_room a false (freeSlots_pos hocc hwait), hau]
    exact hplaced _ fun _ _ => rfl
  · have hholder : s.holderOf u = none := by
      rw [State.holderOf, State.findEntry?, List.find?_eq_none]
      intro b _
      by_cases hf : (s.entry b).state = .free
      · simp [hf]
      · simp [hnone b hf]
    rw [hholder]
    exact hplaced s fun _ _ => rfl

end Sys2Proof.Machine
end

section
/-! PROOF. The state that RESET# leaves (O2): its registers and offers by evaluation, and the laws, most of which have
nothing to hold of. -/

namespace Sys2Proof.Machine

/-! ## The empty tables -/

@[simp] theorem reset_entry (a : Addr) : State.reset.entry a = Entry.empty := Vector.getElem_replicate a.isLt

@[simp] theorem reset_store (a : Addr) : State.reset.store a = Store.empty := Vector.getElem_replicate a.isLt

theorem reset_bindings (i : Fin 8) : State.reset.bindings[i.val] = none := Vector.getElem_replicate i.isLt

/-! ## The laws -/

theorem reset_lineLaws : State.reset.LineLaw ∧ State.reset.FrameLaw ∧ State.reset.SourceLaw ∧ State.reset.OnLineLaw ∧
    State.reset.RoundLaw :=
  have ⟨hframe, hsource, honline, hround⟩ := reset_sound.line
  ⟨by decide, hframe, hsource, honline, hround⟩

/-- No entry is ACTIVE, and the miss limit is 3. -/
theorem reset_activeLaw : State.reset.ActiveLaw := ⟨by decide, fun a h => by simp [Entry.empty] at h⟩

theorem reset_rosterLaws : State.reset.FifoLaw ∧ State.reset.UnitLaw ∧ State.reset.FreeLaw ∧ State.reset.ActiveLaw ∧
    State.reset.DueLaw :=
  have hr := reset_sound.roster
  ⟨hr.fifo, hr.units, hr.free, reset_activeLaw, hr.due⟩

theorem reset_queueLaws : State.reset.QueueLaw ∧ State.reset.OccupancyLaw ∧ State.reset.TicketLaw ∧
    State.reset.AttentionLaw ∧ State.reset.StoreLaw := by
  refine ⟨by decide, by decide, by decide, fun a => ?_, fun a => ?_⟩
  · simp [Entry.empty, Store.empty]
  · simp [Store.empty]

/-- Every count is 0, and the queue and the ring are empty. -/
theorem reset_rangeLaw : State.reset.RangeLaw := by
  refine ⟨by decide, by decide, by decide, fun a => ?_, ?_, ?_, ?_⟩
  · simp [Entry.empty]
  all_goals simp [State.reset]

theorem reset_tableLaws : State.reset.BindingRowsLaw ∧ State.reset.BindingHeldLaw ∧ State.reset.RangeLaw ∧
    State.reset.ConfigLaw ∧ State.reset.CommitLaw :=
  have hr := reset_sound.roster
  ⟨hr.rows, hr.held, reset_rangeLaw, by decide, by decide⟩

/-! ## The registers and the offer -/

theorem reset_registers : ∀ address : BitVec 5, State.reset.readRegister address =
    ([0x4C, 0x03, 0x00, 0x00, 0x00, 0x00, 0x00, 0x00, 0x00, 0x00, 0x00, 0x00, 0x00, 0x00, 0x00, 0x00,
      0x00, 0x00, 0x00, 0x00, 0x00, 0x03, 0x0A, 0x02, 0x08, 0x04, 0x03, 0x00, 0x00, 0x00, 0x00, 0x00] :
      List Byte).getD address.toNat 0 := by decide

/-- The offer in force from reset: one base page of 16 bytes, every poll class, attention and confirm (R90). -/
theorem default_offer : Offer.default.count = 1 ∧
    pageKind (Offer.default.word 0) = .base ∧ pageLengthClass (Offer.default.word 0) = .bytes16 ∧
    (∀ c : PollClass, pageOffersPoll (Offer.default.word 0) c = true) ∧
    pageAttention (Offer.default.word 0) = true ∧ pageConfirm (Offer.default.word 0) = true ∧
    pageMore (Offer.default.word 0) = false ∧ pageAgree (Offer.default.word 0) = false ∧
    (∀ k : Fin 8, k ≠ 0 → Offer.default.word k.val = 0) ∧ ∀ k : Fin 8, Offer.default.binding k.val = false := by
  refine ⟨by decide, by decide, by decide, fun c => by cases c <;> decide, by decide, by decide, by decide, by decide,
    by decide, by decide⟩

/-- Settles O2: the registers, the laws and the offers by the lemmas above, and each remaining field by its value. -/
theorem resetState : Obligations.ResetState := by
  refine ⟨reset_registers, by decide, ⟨reset_lineLaws, reset_rosterLaws, reset_queueLaws, reset_tableLaws⟩,
    fun offer ho => ?_, reset_entry, reset_bindings, ⟨rfl, rfl, rfl, rfl⟩, ⟨rfl, rfl, rfl, rfl, rfl, rfl, rfl⟩, ⟨rfl, rfl, rfl⟩,
    ⟨rfl, rfl, rfl⟩, ⟨fun k => ?_, rfl, rfl⟩, ⟨rfl, reset_store, rfl⟩, ⟨fun k => ?_, rfl, rfl⟩, rfl⟩
  · obtain rfl : offer = Offer.default := by simpa [State.reset] using ho
    exact default_offer
  · exact Vector.getElem_replicate k.isLt
  · exact Vector.getElem_replicate k.isLt

end Sys2Proof.Machine
end

section
/-! PROOF. The judgement of node pages (O33): the response that carries one, the states that a negotiation leaves, and the
end of a PAGE exchange. -/

namespace Sys2Proof.Machine

/-! ## The response that carries a node page -/

/-- A node page without the positions that its kind does not use (R73, R192). -/
def pageUsed (sent : PageWord) : PageWord := sent &&& ~~~pageUnused sent

theorem pageUsed_eq (sent : PageWord) : pageUsed sent = match pageKind sent with
    | .base => sent &&& 0xFFF0
    | .message => sent &&& 0xFFF8
    | .plain | .invalid => sent := by
  unfold pageUsed pageUnused
  cases pageKind sent with
  | base => rfl
  | message => rfl
  | plain => exact BitVec.and_allOnes
  | invalid => exact BitVec.and_allOnes

/-- A word from its two bytes. -/
theorem wordOfBytes_split (w : PageWord) : wordOfBytes (w.extractLsb' 8 8) (w.extractLsb' 0 8) = w := by
  ext i hi
  refine (BitVec.getLsbD_append (x := w.extractLsb' 8 8) (y := w.extractLsb' 0 8) (i := i)).trans ?_
  rw [← BitVec.getLsbD_eq_getElem hi]
  by_cases h : i < 8
  · simp [h]
  · simp [h, show i - 8 < 8 by omega, show 8 + (i - 8) = i by omega]

/-- All the positions that a kind does not use are in the low byte (R192). -/
theorem pageUsed_high (sent : PageWord) : (pageUsed sent).extractLsb' 8 8 = sent.extractLsb' 8 8 := by
  have hhigh : (pageUnused sent).extractLsb' 8 8 = 0 := by
    unfold pageUnused
    cases pageKind sent <;> decide
  ext i hi
  have := congrArg (fun v : Byte => v.getLsbD i) hhigh
  simp only [BitVec.getLsbD_extractLsb', hi, decide_true, Bool.true_and, BitVec.ofNat_eq_ofNat, BitVec.getLsbD_zero] at this
  rw [BitVec.getLsbD_eq_getElem (by omega)] at this
  simp [pageUsed, this, show 8 + i < 16 by omega]

theorem pageUsed_low (sent : PageWord) :
    (pageUsed sent).extractLsb' 0 8 = sent.extractLsb' 0 8 &&& ~~~(pageUnused sent).extractLsb' 0 8 := by
  ext i hi
  simp [pageUsed, show i < 16 by omega]

section
variable (index : Nat) (toggle : Bool) (sent : PageWord)

/-- The bytes before the check byte of the ACK that carries a node page. -/
theorem pageBody : (Answer.ack (wordBytes (pageUsed sent) ++ [BitVec.ofNat 8 index])).body toggle =
    [flagBit 7 toggle ||| 1, 3, sent.extractLsb' 8 8, (pageUsed sent).extractLsb' 0 8, BitVec.ofNat 8 index] := by
  rw [← pageUsed_high]
  rfl

/-- The ACK that carries a node page as it stands on the line, with the positions that its kind does not use as sent. -/
def pageWire : List Byte :=
  ((Answer.ack (wordBytes (pageUsed sent) ++ [BitVec.ofNat 8 index])).wire toggle).set 3 (sent.extractLsb' 0 8)

theorem pageWire_eq : pageWire index toggle sent = [flagBit 7 toggle ||| 1, 3, sent.extractLsb' 8 8,
    sent.extractLsb' 0 8, BitVec.ofNat 8 index,
    checkByte ((Answer.ack (wordBytes (pageUsed sent) ++ [BitVec.ofNat 8 index])).body toggle)] := by
  rw [pageWire, Answer.wire]
  conv_lhs => rw [pageBody]
  rw [pageBody]
  rfl

theorem pageWire_carries : carriesPage (.page index) (pageWire index toggle sent) = true := by
  rw [pageWire_eq, carriesPage]
  cases toggle <;> simp [wireByte, flagBit]

/-- A node page is accepted whatever the positions that its kind does not use hold (R73; log 29). -/
theorem judgeResponse_page : judgeResponse (.page index) toggle (pageWire index toggle sent) .recessive =
    .ok (.ack (wordBytes (pageUsed sent) ++ [BitVec.ofNat 8 index])) := by
  have hsuits : (Answer.ack (wordBytes (pageUsed sent) ++ [BitVec.ofNat 8 index])).suits (.page index) = true :=
    suits_ack (by simp [wordBytes]) (by simp [wordBytes, AnswerShape.acceptsAck])
  have hbyte (k : Nat) : wireByte (pageWire index toggle sent) k = [flagBit 7 toggle ||| 1, 3, sent.extractLsb' 8 8,
      sent.extractLsb' 0 8, BitVec.ofNat 8 index,
      checkByte ((Answer.ack (wordBytes (pageUsed sent) ++ [BitVec.ofNat 8 index])).body toggle)].getD k 0xFF := by
    rw [wireByte, pageWire_eq]
  refine judgeResponse_reads hsuits (fun k hk => ?_) ((hbyte 5).trans (by simp))
  rw [pageBody]
  have hk5 : k < 5 := hk
  match k, hk5 with
  | 0, _ => exact readByte_status (answer := .ack (wordBytes (pageUsed sent) ++ [BitVec.ofNat 8 index])) (hbyte 0)
  | 3, _ =>
    rw [readByte_page (pageWire_carries index toggle sent), hbyte, hbyte]
    simp only [List.getD_cons_succ, List.getD_cons_zero, wordOfBytes_split, pageUsed_low]
  | 1, _ => rw [readByte_plain (by omega) (by omega), hbyte]; rfl
  | 2, _ => rw [readByte_plain (by omega) (by omega), hbyte]; rfl
  | 4, _ => rw [readByte_plain (by omega) (by omega), hbyte]; rfl

end

end Sys2Proof.Machine
end

section
/-! PROOF. The end of a PAGE exchange (O33): each way in which a negotiation goes on or ends, with room in the ring, and the
judgement of a node page as the properties of its word. -/

namespace Sys2Proof.Machine

/-! ## How a negotiation goes on and ends -/

/-- The state in which the end of a PAGE has set the entry, while its exchange is no longer on the line. -/
def State.paged (a : Addr) (e : Entry) (s : State) : State := { s.setEntry a e with exchange := none }

/-- The state in which a PAGE has left the negotiation and its entry. -/
def State.afterPage (a : Addr) (e : Entry) (next : Option Negotiation) (s : State) : State :=
  { s with negotiation := next, roster := s.roster.set a.val e }

/-- The state with an event posted about an entry (R145, R147). -/
def State.posted (a : Addr) (u : UnitNumber) (data : EventData) (s : State) : State :=
  { s with ring := s.ring ++ [.event { address := some a, unit := u, data := data }], cause := s.cause ||| 0x01 }

/-- The state in which a negotiation has failed (R6, R89, R94). -/
def State.negotiationFailed (a : Addr) (reason : RefusalReason) (e : Entry) (s : State) : State :=
  (((s.afterPage a { e with state := .refused, due := false } none).posted a (s.entry a).unit (.refused reason)).withVerdicts
    a .nodeRefused).withCommitCopied

/-- The state in which a negotiation has resolved (R87, R88, R90, R94). -/
def State.negotiationResolved (a : Addr) (terms : Terms) (d : Described) (e : Entry) (s : State) : State :=
  (((s.afterPage a (e.resolved terms d) none).posted a (s.entry a).unit (.joined terms d.deviceClass)).withVerdictsBy
    (termVerdict a terms d.objects)).withCommitCopied

section
variable {s : State} {a : Addr} {e : Entry} {n : Negotiation}

@[simp] theorem paged_entry : (s.paged a e).entry a = e := State.entry_setEntry_self s a e

theorem paged_modify (f : Entry → Entry) : (s.paged a e).modifyEntry a f = s.paged a (f e) := by
  rw [State.modifyEntry, paged_entry]
  simp [State.paged, State.setEntry]

/-- The negotiation is set beside its entry. -/
theorem paged_goesOn (next : Option Negotiation) :
    ({ s.paged a e with negotiation := next } : State) = { s.afterPage a e next with exchange := none } := rfl

/-- A negotiation whose node is lost (R5, R84, R94). -/
theorem paged_loses (hn : (s.queue.map Request.ticket).Nodup) (h : 0 < (s.withVerdicts a .nodeLost).freeSlots) :
    (({ s with exchange := none } : State).enterLost a).endNegotiation = { ((({ s.withVerdicts a .nodeLost with
      negotiation := none
      roster := s.roster.set a.val { s.entry a with state := .lost, holdOff := none } } : State).posted a
        (s.entry a).unit .lost).withCommitCopied) with exchange := none } := by
  rw [enterLost_room (s := { s with exchange := none }) hn h, endNegotiation_eq]
  rfl

/-- An event about the entry posts with the unit number it keeps (R145, R147). -/
theorem paged_raiseAt (data : EventData) (h : 0 < s.freeSlots) (hu : e.unit = (s.entry a).unit) :
    (s.paged a e).raiseAt a data = (s.paged a e).posted a (s.entry a).unit data := by
  rw [raiseAt_room (s := s.paged a e) a data h, paged_entry, hu]
  rfl

variable (ha : n.address = a) (hn : (s.queue.map Request.ticket).Nodup) (h : 0 < s.freeSlots)
  (hu : e.unit = (s.entry a).unit)

include ha hn h hu

/-- A negotiation that fails with room in the ring (R6, R89). -/
theorem paged_fails (reason : RefusalReason) :
    (s.paged a e).failNegotiation n reason = { s.negotiationFailed a reason e with exchange := none } := by
  rw [State.failNegotiation, ha, paged_modify, paged_raiseAt _ h (by exact hu), giveAddressVerdicts_eq _ _ _
    (by exact hn), endNegotiation_eq]
  rfl

/-- A protocol error restarts the negotiation or fails it (R82). -/
theorem paged_protocolError :
    (n.restarts < 2 → (s.paged a e).protocolError n = { s.afterPage a { e with pages := [] }
      (some { n with restarts := n.restarts + 1, next := 0, waits := 0 }) with exchange := none }) ∧
    (n.restarts = 2 → (s.paged a e).protocolError n = { s.negotiationFailed a .protocol e with exchange := none }) := by
  refine ⟨fun hlt => ?_, fun heq => ?_⟩
  · rw [State.protocolError, if_pos (by exact hlt), ha, paged_modify]
    rfl
  · rw [State.protocolError, if_neg (by simp [heq, Config.restartLimit]), paged_fails ha hn h hu]

/-- A negotiation that ends with no poll class in common, or with its terms (R87 to R89). -/
theorem paged_resolves :
    (resolveTerms (e.pages.headD 0) (s.active.word 0) = none → (s.paged a e).resolveNegotiation n =
      { s.negotiationFailed a .noPollClass e with exchange := none }) ∧
    (∀ terms, resolveTerms (e.pages.headD 0) (s.active.word 0) = some terms → (s.paged a e).resolveNegotiation n =
      { s.negotiationResolved a terms (interpretPages { deviceClass := none, objects := none } e.pages) e with
        exchange := none }) := by
  have hactive : (s.paged a e).active = s.active := rfl
  unfold State.resolveNegotiation
  dsimp only
  rw [ha, paged_entry, hactive]
  refine ⟨fun hnone => ?_, fun terms hterms => ?_⟩
  · rw [hnone]
    exact paged_fails ha hn h hu .noPollClass
  · rw [hterms]
    dsimp only
    rw [paged_modify, paged_raiseAt _ h (by exact hu), giveVerdicts_eq _ _ (by exact hn), endNegotiation_eq]
    rfl

end

/-! ## The judgement of a node page -/

section
variable {s : State} {n : Negotiation} {w : PageWord}

/-- The node page is of no kind, or not of the kind of its place (R80). -/
def Misplaced (n : Negotiation) (w : PageWord) : Prop := pageKind w = .invalid ∨ (n.next = 0 ↔ pageKind w ≠ .base)

/-- The node does not agree to a binding page (R80). -/
def State.Disagrees (s : State) (n : Negotiation) (w : PageWord) : Prop :=
  0 < n.next ∧ s.active.binding (n.next - 1) = true ∧ pageAgree w = false

theorem judgePage_misplaced (h : Misplaced n w) : s.judgePage n w = s.protocolError n := by
  rcases h with h | h
  · rw [State.judgePage, if_pos h]
  · by_cases hk : pageKind w = .invalid
    · rw [State.judgePage, if_pos hk]
    · rw [State.judgePage, if_neg hk, if_pos (by by_cases h0 : n.next = 0 <;> simp_all)]

/-- A page that is in its place is judged by what R80 asks next. -/
theorem judgePage_placed (h : ¬Misplaced n w) : s.judgePage n w =
    if 1 ≤ n.next && s.active.binding (n.next - 1) && !pageAgree w then s.failNegotiation n .notAgreed
    else if !pageIsNull w && Config.pageLimit ≤ (s.entry n.address).pages.length then s.failNegotiation n .pagesOverflow
    else s.pageKept n w := by
  obtain ⟨hk, hplace⟩ := not_or.mp h
  rw [State.judgePage, if_neg hk, if_neg (by by_cases h0 : n.next = 0 <;> simp_all)]

theorem judgePage_disagrees (h : ¬Misplaced n w) (hd : s.Disagrees n w) :
    s.judgePage n w = s.failNegotiation n .notAgreed := by
  obtain ⟨hpos, hbinding, hagree⟩ := hd
  rw [judgePage_placed h, if_pos (by simp [hbinding, hagree]; omega)]

theorem not_disagrees (h : ¬s.Disagrees n w) :
    (1 ≤ n.next && s.active.binding (n.next - 1) && !pageAgree w) = false := by
  rw [Bool.eq_false_iff]
  intro hb
  simp only [Bool.and_eq_true, decide_eq_true_eq, Bool.not_eq_true'] at hb
  exact h ⟨hb.1.1, hb.1.2, hb.2⟩

theorem judgePage_overflows (h : ¬Misplaced n w) (hd : ¬s.Disagrees n w) (hnull : pageIsNull w = false)
    (hlen : 8 ≤ (s.entry n.address).pages.length) : s.judgePage n w = s.failNegotiation n .pagesOverflow := by
  rw [judgePage_placed h, not_disagrees hd, if_neg (by simp), if_pos (by simp [hnull, Config.pageLimit, hlen])]

theorem judgePage_keeps (h : ¬Misplaced n w) (hd : ¬s.Disagrees n w)
    (hroom : ¬(pageIsNull w = false ∧ 8 ≤ (s.entry n.address).pages.length)) : s.judgePage n w = s.pageKept n w := by
  rw [judgePage_placed h, not_disagrees hd, if_neg (by simp), if_neg]
  simp only [Bool.and_eq_true, Bool.not_eq_true', decide_eq_true_eq]
  exact hroom

theorem pageIsNull_iff : pageIsNull w = true ↔ pageKind w = .message ∧ pageCode w = 0 := by
  simp [pageIsNull]

/-- A NULL page is not kept (R73, R80). -/
theorem keepPage_eq (pages : List PageWord) (w : PageWord) :
    keepPage pages w = if pageKind w = .message ∧ pageCode w = 0 then pages else pages ++ [w] := by
  simp only [keepPage, pageIsNull_iff]

theorem furtherDue_iff (o : Offer) (i : Nat) (w : PageWord) :
    o.furtherDue i w = true ↔ i + 1 < o.count ∨ pageMore w = true ∨ o.binding i = true := by
  simp [Offer.furtherDue, Offer.more, or_assoc]

variable {a : Addr} {e : Entry}

/-- A kept page ends the negotiation, overflows it, or is followed by the next index (R80, R81). -/
theorem paged_keeps (ha : n.address = a) (hn : (s.queue.map Request.ticket).Nodup) (h : 0 < s.freeSlots)
    (hu : e.unit = (s.entry a).unit) :
    let kept : Entry := { e with pages := keepPage e.pages w }
    (s.active.furtherDue n.next w = true → n.next < 15 → (s.paged a e).pageKept n w =
      { s.afterPage a kept (some { n with next := n.next + 1, waits := 0 }) with exchange := none }) ∧
    (s.active.furtherDue n.next w = true → n.next = 15 → (s.paged a e).pageKept n w =
      { s.negotiationFailed a .pagesOverflow kept with exchange := none }) ∧
    (s.active.furtherDue n.next w = false → (s.paged a e).pageKept n w = (s.paged a kept).resolveNegotiation n) := by
  intro kept
  have hactive : (s.paged a e).active = s.active := rfl
  unfold State.pageKept
  dsimp only
  rw [ha, paged_modify, hactive]
  refine ⟨fun hf hlt => ?_, fun hf heq => ?_, fun hf => ?_⟩
  · rw [hf, if_neg (by simp), if_neg (by simp [Config.pageIndexLimit]; omega)]
    rfl
  · rw [hf, if_neg (by simp), if_pos (by simp [Config.pageIndexLimit, heq])]
    exact paged_fails (e := kept) ha hn h hu .pagesOverflow
  · rw [hf, if_pos (by simp)]

end

/-! ## The end of a PAGE exchange -/

/-- A PAGE of the negotiation in progress that ends on a BUSY line acts on the negotiation (R79, R82 to R84). -/
theorem pageEnd_busy {s : State} {a : Addr} {n : Negotiation} (hn : s.negotiation = some n) (ha : n.address = a)
    (hl : s.lineState = .busy) :
    (∀ w tail, s.pageEnd a (.ack (wordBytes w ++ tail)) = s.judgePage n w) ∧
    (∀ reason, s.pageEnd a (.refuse reason) = s.protocolError n) ∧ s.pageEnd a .wait = s.pageWait n ∧
    ∀ outOfStep, s.pageEnd a (.exhausted outOfStep) = (s.enterLost a).endNegotiation := by
  refine ⟨fun w tail => ?_, fun reason => ?_, ?_, fun outOfStep => ?_⟩
  · rw [State.pageEnd, hn]
    dsimp only
    rw [if_neg (by simp [ha]), if_neg (by simp [hl])]
    exact congrArg (fun word => s.judgePage n word) (wordOfBytes_split w)
  · simp [State.pageEnd, hn, ha, hl]
  · simp [State.pageEnd, hn, ha, hl]
  · simp [State.pageEnd, hn, ha, hl]

/-- A PAGE of the negotiation in progress that ends on a DRAINING line abandons it (R85). -/
theorem pageEnd_draining {s : State} {a : Addr} (e : ExchangeEnd) (hn : s.negotiation.map Negotiation.address = some a)
    (hl : s.lineState = .draining) : s.pageEnd a e = s.withNegotiationAbandoned := by
  obtain ⟨n, hsome, ha⟩ := Option.map_eq_some_iff.mp hn
  rw [State.pageEnd, hsome]
  dsimp only
  rw [if_neg (by simp [ha]), if_pos hl, abandonNegotiation_eq]

/-- A PAGE whose negotiation a RELEASE has abandoned is discarded (R17, R86). -/
theorem pageEnd_other {s : State} {a : Addr} (e : ExchangeEnd) (hn : s.negotiation.map Negotiation.address ≠ some a) :
    s.pageEnd a e = s := by
  rw [State.pageEnd]
  cases hs : s.negotiation with
  | none => rfl
  | some n => exact if_pos (by simpa [hs] using hn)

/-- An abandoned negotiation leaves the line. -/
theorem withNegotiationAbandoned_lineState (s : State) : s.withNegotiationAbandoned.lineState = s.lineState := by
  unfold State.withNegotiationAbandoned
  split <;> rfl

theorem withNegotiationAbandoned_exchange (s : State) (x : Option Exchange) :
    ({ s with exchange := x } : State).withNegotiationAbandoned = { s.withNegotiationAbandoned with exchange := x } :=
  (withNegotiationAbandoned_line s s.lineState x).trans (by rw [← withNegotiationAbandoned_lineState s])

/-- The entry that an accepted answer to a PAGE leaves (R3, R34). -/
def Entry.pageAnswered (answer : Answer) (holdOffTime : Byte) (e : Entry) : Entry :=
  match answer with
  | .ack _ | .refuse _ => { e with toggle := !e.toggle, misses := 0 }
  | .wait => { e with holdOff := some holdOffTime.toNat }

theorem answered_page (line : LineState) (answer : Answer) (holdOffTime : Byte) (e : Entry) :
    e.answered line .page answer holdOffTime = e.pageAnswered answer holdOffTime := by
  cases answer <;> rfl

section
variable {s v : State} {x : Exchange} {a : Addr} {index : Nat}

/-- An accepted response to a PAGE is applied to the negotiation, and the line is freed (R34, R43, R48, R79). -/
theorem ends_page {answer : Answer} {wire : List Byte} (ho : s.Open) (hx : s.exchange = some x) (hd : x.discard = false)
    (hs : x.source = .negotiate) (hshape : x.shape = .page index) (hk : x.frame.kind = .page) (ha : x.frame.address = some a)
    (hp : x.phase = .command ∨ x.phase = .reply)
    (hj : judgeResponse (.page index) x.sentToggle wire .recessive = .ok answer)
    (hend : (s.paged a ((s.entry a).pageAnswered answer s.holdOffTime)).pageEnd a answer.toEnd =
      { v with exchange := none }) :
    ∃ t, exec (.responseFrame wire .recessive) s = .next t ∧ v.LineFreed t := by
  rw [← hshape] at hj
  refine ⟨_, exec_accepts ho.1 hx (by simp [hshape, AnswerShape.expectsAnswer]) hp hj, ?_⟩
  rw [acceptAnswer_ends hx (confirmFails_other (by simp [hshape])) hd (by simp [hs]),
    noteAnswer_addressed (addressed_of_kind (.inl hk) ha), hk, answered_page, handEnd_negotiate hs, ha]
  dsimp only
  rw [show ({ s.setEntry a _ with exchange := none } : State) = s.paged a _ from rfl, hend]
  exact lineFreed_freed v

/-- An answer without a payload carries no node page. -/
theorem unusedAreZero_nil (index : Nat) : unusedAreZero (.page index) [] = true := by
  have : (0 : PageWord) &&& pageUnused 0 = 0 := by decide
  exact beq_iff_eq.mpr this

/-- What the answers to a PAGE are judged as (R28, R38). -/
theorem judgeResponse_pageRefuse (toggle : Bool) {reason : BitVec 4} (hr : reason ≠ 0) :
    judgeResponse (.page index) toggle ((Answer.refuse reason).wire toggle) .recessive = .ok (.refuse reason) :=
  judgeResponse_wire toggle (suits_refuse hr rfl) (unusedAreZero_nil index)

theorem judgeResponse_pageWait (toggle : Bool) :
    judgeResponse (.page index) toggle (Answer.wait.wire toggle) .recessive = .ok .wait :=
  judgeResponse_wire toggle (suits_wait rfl) (unusedAreZero_nil index)

end

end Sys2Proof.Machine
end

section
/-! PROOF. A node page is judged (O33). -/

namespace Sys2Proof.Machine

/-- Where every end of a PAGE has the same effect, each answer and each failed last attempt has it, on the entry that the
answer leaves (R17, R85, R86). -/
theorem ends_whatever {s : State} {x : Exchange} {a : Addr} {index : Nat} (F : State → State) (ho : s.Open)
    (hx : s.exchange = some x) (hd : x.discard = false) (hs : x.source = .negotiate) (hshape : x.shape = .page index)
    (hk : x.frame.kind = .page) (ha : x.frame.address = some a) (hp : x.phase = .command ∨ x.phase = .reply)
    (hF : ∀ entry e, (s.paged a entry).pageEnd a e = { F (s.setEntry a entry) with exchange := none }) :
    let ends (c : Instr) (e : Entry) : Prop := ∃ t, exec c s = .next t ∧ (F (s.setEntry a e)).LineFreed t
    (∀ wire answer, judgeResponse (.page index) x.sentToggle wire .recessive = .ok answer →
      ends (.responseFrame wire .recessive) ((s.entry a).pageAnswered answer s.holdOffTime)) ∧
    ∀ c reason, x.FailsBy c reason → x.interruptTaken = true ∨ x.allowed ≤ x.used → ends c (s.entry a) := by
  intro ends
  have hnot : x.source ≠ .clearDismiss := by simp [hs]
  have hsame (e : ExchangeEnd) : ({ s with exchange := none } : State).handEnd x e =
      { F (s.setEntry a (s.entry a)) with exchange := none } := by
    rw [handEnd_negotiate hs, ha]
    refine .trans ?_ (hF (s.entry a) e)
    rw [State.paged, setEntry_entry]
  refine ⟨fun wire answer hj => ends_page ho hx hd hs hshape hk ha hp hj (hF _ _), fun c reason hf hlast => ?_⟩
  cases hi : x.interruptTaken with
  | true => exact ends_interrupted ho hx hd hnot hf hi (hsame _)
  | false => exact ends_exhausted ho hx hd hnot hf hi (by simpa [hi] using hlast) (hsame _)

/-- The verdicts of new terms (R90) as R90 lists them. -/
theorem termVerdict_eq (a : Addr) (terms : Terms) (objects : Option ObjectRange) : termVerdict a terms objects = fun r =>
    if r.address ≠ some a then none
    else if terms.payloadLimit.bytes < r.length then some .tooLong
    else if objects.any fun g => decide (r.object < g.lowest ∨ g.highest < r.object) then some .outOfRange
    else none := by
  funext r
  cases objects <;> simp [termVerdict, aboveLimit, outsideRange]

/-- Settles O33: the answer is found from the response, and the end of the PAGE by the checks of R80 in their order; on a
DRAINING line, or without the negotiation, every end leaves the same. -/
theorem nodePageIsJudged : Obligations.NodePageIsJudged := by
  refine ⟨?_, ?_⟩
  · intro s x a sent n hc hs hshape hnext hk ha hp hneg hna hrestarts hn hocc hwait w ends answered heldOff after raised fails
      protocolError ack wait null misplaced disagrees tooMany pages kept found further
    obtain ⟨ho, hl, hx, hint, hd⟩ := hc
    have hroom := freeSlots_pos hocc hwait
    have hw : pageUsed sent = w := pageUsed_eq sent
    obtain ⟨hendAck, hendRefuse, -, -⟩ := pageEnd_busy (s := s.paged a answered) (a := a) (n := n) hneg hna hl
    obtain ⟨-, -, hendWait, -⟩ := pageEnd_busy (s := s.paged a heldOff) (a := a) (n := n) hneg hna hl
    obtain ⟨-, -, -, hendExhausted⟩ := pageEnd_busy (s := { s with exchange := none }) (a := a) (n := n) hneg hna hl
    have hack {v : State} (hend : (s.paged a answered).judgePage n w = { v with exchange := none }) : ends ack v := by
      have hj := judgeResponse_page n.next x.sentToggle sent
      rw [pageWire, hw] at hj
      exact ends_page ho hx hd hs hshape hk ha hp hj ((hendAck w _).trans hend)
    have hprotocol {c : Instr} {e : Entry} (k : Nat) (hu : e.unit = (s.entry a).unit)
        (hv : ∀ {v : State}, (s.paged a e).protocolError { n with waits := k } = { v with exchange := none } → ends c v) :
        protocolError c e := by
      obtain ⟨hagain, hlast⟩ := paged_protocolError (n := { n with waits := k }) hna hn hroom hu
      exact ⟨fun hlt => hv (hagain hlt), fun heq => hv (v := s.negotiationFailed a .protocol e) (hlast heq)⟩
    have hfails {reason : RefusalReason} {e : Entry} (hend : (s.paged a answered).judgePage n w =
        { s.negotiationFailed a reason e with exchange := none }) : fails ack reason e :=
      hack (v := s.negotiationFailed a reason e) hend
    have hpages : (s.paged a answered).entry n.address = answered := by rw [hna, paged_entry]
    have hnull : pageIsNull w = true ↔ null := pageIsNull_iff
    refine ⟨fun hm => ?_, fun hm hdis => ?_, fun hm hdis hmany => ?_, fun hm hdis hmany => ?_, ?_, ?_, ?_, ?_⟩
    · exact hprotocol n.waits rfl fun hv => hack ((judgePage_misplaced hm).trans hv)
    · exact hfails (reason := .notAgreed) (e := answered)
        ((judgePage_disagrees (s := s.paged a answered) hm hdis).trans
          (paged_fails (e := answered) hna hn hroom rfl .notAgreed))
    · refine hfails (reason := .pagesOverflow) (e := answered)
        ((judgePage_overflows (s := s.paged a answered) hm hdis ?_ ?_).trans
          (paged_fails (e := answered) hna hn hroom rfl .pagesOverflow))
      · rw [Bool.eq_false_iff, Ne, hnull]
        exact hmany.1
      · rw [hpages]
        exact hmany.2
    · have hkeeps : (s.paged a answered).judgePage n w = (s.paged a answered).pageKept n w := by
        refine judgePage_keeps hm hdis fun hover => hmany ⟨?_, ?_⟩
        · rw [← hnull, hover.1]
          simp
        · have := hover.2
          rwa [hpages] at this
      have hlist : keepPage answered.pages w = pages := keepPage_eq _ w
      obtain ⟨hgoes, hover, hends⟩ := paged_keeps (w := w) (e := answered) hna hn hroom rfl
      rw [hlist] at hgoes hover hends
      obtain ⟨hnone, hterms⟩ := paged_resolves (e := kept) hna hn hroom rfl
      have hdue : s.active.furtherDue n.next w = true ↔ further := furtherDue_iff _ _ _
      have hlastPage (hf : ¬further) : s.active.furtherDue n.next w = false := by
        rw [Bool.eq_false_iff, Ne, hdue]
        exact hf
      refine ⟨fun hf hlt => ?_, fun hf heq => ?_, fun hf hr => ?_, fun terms hf hr => ?_⟩
      · exact hack (v := after kept _) (hkeeps.trans (hgoes (hdue.mpr hf) hlt))
      · exact hfails (e := kept) (hkeeps.trans (hover (hdue.mpr hf) heq))
      · exact hfails (e := kept) (hkeeps.trans ((hends (hlastPage hf)).trans (hnone hr)))
      · have hv := hack (v := s.negotiationResolved a terms found kept)
          (hkeeps.trans ((hends (hlastPage hf)).trans (hterms terms hr)))
        rw [State.negotiationResolved, termVerdict_eq] at hv
        exact hv
    · intro hlt
      exact ends_page ho hx hd hs hshape hk ha hp (v := after heldOff _) (judgeResponse_pageWait _)
        (hendWait.trans (if_neg (by exact Nat.not_le.mpr hlt)))
    · intro hle
      exact hprotocol (n.waits + 1) rfl fun hv =>
        ends_page ho hx hd hs hshape hk ha hp (judgeResponse_pageWait _) ((hendWait.trans (if_pos (by exact hle))).trans hv)
    · intro reason hr
      exact hprotocol n.waits rfl fun hv =>
        ends_page ho hx hd hs hshape hk ha hp (judgeResponse_pageRefuse _ hr) ((hendRefuse reason).trans hv)
    · intro hused c reason hf told hocc' hwait'
      refine ends_exhausted ho hx hd (by simp [hs]) hf hint hused ?_
      rw [handEnd_negotiate hs, ha]
      exact (hendExhausted _).trans (paged_loses hn (freeSlots_pos hocc' hwait'))
  · intro s x a index ho hx hd hs hshape hk ha hp answered heldOff becomes answer always
    have hall (F : State → State)
        (hF : ∀ entry e, (s.paged a entry).pageEnd a e = { F (s.setEntry a entry) with exchange := none }) :
        always fun c v => ∃ t, exec c s = .next t ∧ (F v).LineFreed t := by
      obtain ⟨hanswer, hfail⟩ := ends_whatever F ho hx hd hs hshape hk ha hp hF
      refine ⟨fun w hz => ?_, fun reason hr => ?_, ?_, fun c reason hf hlast => ?_⟩
      · refine hanswer _ _ (judgeResponse_wire _ (suits_ack (by simp [wordBytes]) ?_) ?_)
        · simp [wordBytes, AnswerShape.acceptsAck]
        · rw [hshape] at hz
          exact hz
      · exact hanswer _ _ (judgeResponse_pageRefuse _ hr)
      · exact hanswer _ _ (judgeResponse_pageWait _)
      · obtain ⟨t, het, hfreed⟩ := hfail c reason hf hlast
        rw [setEntry_entry] at hfreed
        exact ⟨t, het, hfreed⟩
    refine ⟨fun hdr hi hneg => ?_, fun hl hneg => ?_⟩
    · have hoff {c : Instr} {v : State} (hv : v.lineState = .draining)
          (h : ∃ t, exec c s = .next t ∧ v.withNegotiationAbandoned.LineFreed t) :
          exec c s = .next v.withNegotiationAbandoned.switchedOff := by
        obtain ⟨t, het, hfreed⟩ := h
        rw [het, hfreed.2 (by rw [withNegotiationAbandoned_lineState, hv])]
      obtain ⟨hack, hrefuse, hwait, hfail⟩ := hall State.withNegotiationAbandoned fun entry e =>
        (pageEnd_draining (s := s.paged a entry) e hneg hdr).trans
          (withNegotiationAbandoned_exchange (s.setEntry a entry) none)
      exact ⟨fun w hz => hoff hdr (hack w hz), fun reason hr => hoff hdr (hrefuse reason hr), hoff hdr hwait,
        fun c reason hf hlast => hoff hdr (hfail c reason hf hlast)⟩
    · exact hall id fun entry e => pageEnd_other e hneg

end Sys2Proof.Machine
end

section
/-! PROOF. The counts and their ranges (R50, R53, R80 to R83, R107, R117, R126, R131, R180, R184) as one relation between the
state before and after, which composes; and `Calm`, under which moreover no entry comes nearer to losing its node. -/

namespace Sys2Proof.Machine

/-! ## The ranges -/

/-- The negotiation's counts (R78, R81 to R83). -/
def State.NegotiationInRange (s : State) : Prop := ∀ n ∈ s.negotiation, n.next ≤ 15 ∧ n.restarts ≤ 2 ∧ n.waits ≤ 15

/-- The counts of requests and of their records (R117, R126, R131). -/
def State.RequestsInRange (s : State) : Prop :=
  (∀ r ∈ s.queue, r.attempts ≤ 15 ∧ r.waits ≤ 15) ∧
    ∀ r, .request r ∈ s.ring → r.attempts ≤ 15 ∧ r.waits ≤ 15 ∧ r.payload.length ≤ 16

/-- The counts of the entries (R1, R80, R107). -/
def State.EntriesInRange (s : State) : Prop := ∀ a : Addr, (s.entry a).misses ≤ 15 ∧ (s.entry a).pages.length ≤ 8

theorem rangeLaw_iff (s : State) : s.RangeLaw ↔ s.passOver ≤ 8 ∧ s.claims ≤ 255 ∧ s.latchPointer ≤ s.latchEnd ∧
    s.EntriesInRange ∧ s.NegotiationInRange ∧ s.RequestsInRange := Iff.rfl

/-- Every count that is in its range stays in it, and a commit stays pending only while a negotiation is in progress. -/
structure KeepsCounts (s t : State) : Prop where
  config : s.ConfigLaw → t.ConfigLaw
  pointer : s.latchPointer ≤ s.latchEnd → t.latchPointer ≤ t.latchEnd
  passOver : s.passOver ≤ 8 → t.passOver ≤ 8
  claims : s.claims ≤ 255 → t.claims ≤ 255
  entries : s.EntriesInRange → t.EntriesInRange
  negotiation : s.ConfigLaw → s.NegotiationInRange → t.NegotiationInRange
  requests : s.RequestsInRange → t.RequestsInRange
  commit : s.CommitLaw → t.CommitLaw

theorem KeepsCounts.trans {s t u : State} (h : KeepsCounts s t) (k : KeepsCounts t u) : KeepsCounts s u where
  config := k.config ∘ h.config
  pointer := k.pointer ∘ h.pointer
  passOver := k.passOver ∘ h.passOver
  claims := k.claims ∘ h.claims
  entries := k.entries ∘ h.entries
  negotiation hc hn := k.negotiation (h.config hc) (h.negotiation hc hn)
  requests := k.requests ∘ h.requests
  commit := k.commit ∘ h.commit

/-- The laws that the relation is about. -/
theorem KeepsCounts.laws {s t : State} (h : KeepsCounts s t) (hr : s.RangeLaw) (hc : s.ConfigLaw) :
    t.RangeLaw ∧ t.ConfigLaw := by
  obtain ⟨hpass, hclaims, hptr, hentries, hneg, hreq⟩ := (rangeLaw_iff s).mp hr
  exact ⟨(rangeLaw_iff t).mpr ⟨h.passOver hpass, h.claims hclaims, h.pointer hptr, h.entries hentries,
    h.negotiation hc hneg, h.requests hreq⟩, h.config hc⟩

/-! ## Entries that come no nearer to a limit -/

/-- An entry that does not become ACTIVE, keeps its terms while it is, and gains neither misses nor pages. -/
structure Entry.Eases (e f : Entry) : Prop where
  active : f.state = .active → e.state = .active ∧ f.terms = e.terms
  misses : f.misses ≤ e.misses
  pages : f.pages.length ≤ e.pages.length

theorem Entry.Eases.refl (e : Entry) : e.Eases e := ⟨fun h => ⟨h, rfl⟩, le_rfl, le_rfl⟩

theorem Entry.Eases.trans {e f g : Entry} (h : e.Eases f) (k : f.Eases g) : e.Eases g where
  active hg := have ⟨hf, ht⟩ := k.active hg; have ⟨he, hu⟩ := h.active hf; ⟨he, ht.trans hu⟩
  misses := k.misses.trans h.misses
  pages := k.pages.trans h.pages

/-- An entry that leaves ACTIVE, or is not ACTIVE, has no terms to keep. -/
theorem Entry.Eases.inactive {e f : Entry} (h : f.state ≠ .active) (hm : f.misses ≤ e.misses)
    (hp : f.pages.length ≤ e.pages.length) : e.Eases f := ⟨fun k => absurd k h, hm, hp⟩

/-- An entry whose state, terms, misses and pages stay. -/
theorem Entry.Eases.same {e f : Entry} (hs : f.state = e.state) (ht : f.terms = e.terms) (hm : f.misses = e.misses)
    (hp : f.pages = e.pages) : e.Eases f := ⟨fun k => ⟨hs ▸ k, ht⟩, hm.le, by rw [hp]⟩

/-- The counts are kept and every entry eases under the same miss limit. -/
structure Calm (s t : State) : Prop extends KeepsCounts s t where
  missLimit : t.missLimit = s.missLimit
  eases : ∀ a : Addr, (s.entry a).Eases (t.entry a)

theorem Calm.trans {s t u : State} (h : Calm s t) (k : Calm t u) : Calm s u :=
  { h.toKeepsCounts.trans k.toKeepsCounts with
    missLimit := k.missLimit.trans h.missLimit, eases := fun a => (h.eases a).trans (k.eases a) }

/-- An ACTIVE entry that eases stays below the miss limit (R108). -/
theorem Calm.activeLaw {s t : State} (h : Calm s t) (hs : s.ActiveLaw) : t.ActiveLaw := by
  refine ⟨h.missLimit ▸ hs.1, fun a ha => ?_⟩
  obtain ⟨hact, hterms⟩ := (h.eases a).active ha
  obtain ⟨ht, hm⟩ := hs.2 a hact
  exact ⟨hterms ▸ ht, h.missLimit ▸ ((h.eases a).misses.trans_lt hm)⟩

theorem EntriesInRange.ease {s t : State} (h : ∀ a : Addr, (s.entry a).Eases (t.entry a)) (hs : s.EntriesInRange) :
    t.EntriesInRange := fun a => ⟨(h a).misses.trans (hs a).1, (h a).pages.trans (hs a).2⟩

/-- The registers and the pointer of the window are as they were. -/
structure SameSettings (s t : State) : Prop where
  pointer : t.latchPointer = s.latchPointer
  latchEnd : t.latchEnd = s.latchEnd
  lineRate : t.lineRate = s.lineRate
  sweepInterval : t.sweepInterval = s.sweepInterval
  retryLimit : t.retryLimit = s.retryLimit
  waitLimit : t.waitLimit = s.waitLimit
  holdOffTime : t.holdOffTime = s.holdOffTime
  missLimit : t.missLimit = s.missLimit

theorem SameHost.settings {s t : State} (h : SameHost s t) : SameSettings s t :=
  ⟨h.latchPointer, h.latchEnd, h.lineRate, h.sweepInterval, h.retryLimit, h.waitLimit, h.holdOffTime, h.missLimit⟩

theorem SameSettings.config {s t : State} (h : SameSettings s t) (hs : s.ConfigLaw) : t.ConfigLaw := by
  simpa only [State.ConfigLaw, h.lineRate, h.sweepInterval, h.retryLimit, h.waitLimit, h.holdOffTime, h.missLimit] using hs

/-- The rules of the relation under the same settings. -/
theorem Calm.of_settings {s t : State} (h : SameSettings s t) (hpass : s.passOver ≤ 8 → t.passOver ≤ 8)
    (hclaims : s.claims ≤ 255 → t.claims ≤ 255) (heases : ∀ a : Addr, (s.entry a).Eases (t.entry a))
    (hneg : s.ConfigLaw → s.NegotiationInRange → t.NegotiationInRange) (hreq : s.RequestsInRange → t.RequestsInRange)
    (hcommit : s.CommitLaw → t.CommitLaw) : Calm s t where
  config := h.config
  pointer hp := by rw [h.pointer, h.latchEnd]; exact hp
  passOver := hpass
  claims := hclaims
  entries := EntriesInRange.ease heases
  negotiation := hneg
  requests := hreq
  commit := hcommit
  missLimit := h.missLimit
  eases := heases

theorem eases_of_roster {s t : State} (h : t.roster = s.roster) (a : Addr) : (s.entry a).Eases (t.entry a) := by
  rw [State.entry_congr h]
  exact .refl _

/-- Nothing but fields that hold no count is changed. -/
theorem Calm.of_eq {s t : State} (h : SameSettings s t) (hpass : t.passOver = s.passOver) (hclaims : t.claims = s.claims)
    (hroster : t.roster = s.roster) (hneg : t.negotiation = s.negotiation) (hqueue : t.queue = s.queue)
    (hring : t.ring = s.ring) (hcommit : t.commitPending = s.commitPending) : Calm s t :=
  .of_settings h (hpass ▸ id) (hclaims ▸ id) (eases_of_roster hroster)
    (fun _ => by rw [State.NegotiationInRange, State.NegotiationInRange, hneg]; exact id)
    (by rw [State.RequestsInRange, State.RequestsInRange, hqueue, hring]; exact id)
    (by rw [State.CommitLaw, State.CommitLaw, hneg, hcommit]; exact id)

theorem Calm.refl (s : State) : Calm s s := .of_eq (SameHost.refl s).settings rfl rfl rfl rfl rfl rfl rfl

/-- What changes the queue, the ring, the waiting places and CAUSE alone keeps the counts that its records keep. -/
theorem Calm.of_work {s t : State} (h : SameWork s t) (hreq : s.RequestsInRange → t.RequestsInRange) : Calm s t :=
  .of_settings h.toSameHost.settings (h.passOver ▸ id) (h.claims ▸ id) (eases_of_roster h.roster)
    (fun _ => by rw [State.NegotiationInRange, State.NegotiationInRange, h.negotiation]; exact id) hreq
    (by rw [State.CommitLaw, State.CommitLaw, h.negotiation, h.commitPending]; exact id)

/-! ## Requests and their records -/

/-- What stands in a list whose first element of a kind has been changed. -/
theorem mem_updateFirst {α : Type} {p : α → Bool} {f : α → α} {l : List α} {x : α} (h : x ∈ updateFirst p f l) :
    x ∈ l ∨ ∃ y ∈ l, x = f y := by
  induction l with
  | nil => simp [updateFirst] at h
  | cons y rest ih =>
    unfold updateFirst at h
    split at h
    · rcases List.mem_cons.mp h with rfl | h
      · exact .inr ⟨y, by simp, rfl⟩
      · exact .inl (by simp [h])
    · rcases List.mem_cons.mp h with rfl | h
      · exact .inl (by simp)
      · exact (ih h).imp (by simp +contextual) fun ⟨z, hz, hx⟩ => ⟨z, by simp [hz], hx⟩

theorem State.RequestsInRange.of_eq {s t : State} (h : s.RequestsInRange) (hq : t.queue = s.queue) (hr : t.ring = s.ring) :
    t.RequestsInRange := by rwa [State.RequestsInRange, hq, hr]

/-- Requests may leave the queue. -/
theorem State.RequestsInRange.sublist {s t : State} (h : s.RequestsInRange) (hq : t.queue.Sublist s.queue)
    (hr : t.ring = s.ring) : t.RequestsInRange := ⟨fun r hm => h.1 r (hq.subset hm), hr ▸ h.2⟩

/-- A request that is changed keeps its counts in range. -/
theorem State.RequestsInRange.modifyRequest {s : State} {p : Request → Bool} {f : Request → Request} (h : s.RequestsInRange)
    (hf : ∀ r, r.attempts ≤ 15 ∧ r.waits ≤ 15 → (f r).attempts ≤ 15 ∧ (f r).waits ≤ 15) :
    (s.modifyRequest p f).RequestsInRange := by
  refine ⟨fun r hm => ?_, h.2⟩
  rcases mem_updateFirst hm with hs | ⟨q, hq, rfl⟩
  · exact h.1 r hs
  · exact hf q (h.1 q hq)

/-- An event record holds no count of a request. -/
theorem State.RequestsInRange.postEvent {s : State} (e : EventRecord) (h : s.RequestsInRange) :
    (s.post (.event e)).RequestsInRange :=
  ⟨h.1, fun r hm => h.2 r (by simpa using hm)⟩

/-- A request's record takes over the counts of its request. -/
theorem State.RequestsInRange.postRecord {s : State} {r : Request} {c : Completion} {reason : BitVec 4} {p : List Byte}
    (h : s.RequestsInRange) (hr : r.attempts ≤ 15 ∧ r.waits ≤ 15) (hp : p.length ≤ 16) :
    (s.post (.request (r.record c reason p))).RequestsInRange := by
  refine ⟨h.1, fun q hm => ?_⟩
  rcases List.mem_append.mp hm with hm | hm
  · exact h.2 q hm
  · obtain rfl : q = r.record c reason p := by simpa using hm
    exact ⟨hr.1, hr.2, hp⟩

theorem State.RequestsInRange.dropRequest {s : State} (p : Request → Bool) (h : s.RequestsInRange) :
    (s.dropRequest p).RequestsInRange := h.sublist List.eraseP_sublist rfl

/-- Raising an event leaves the requests and adds an event at most (R147). -/
theorem raise_calm (e : EventRecord) (s : State) : Calm s (s.raise e) := by
  refine .of_work (raise_sameWork e s) fun h => ?_
  unfold State.raise
  split
  · exact h.postEvent e
  · exact h.of_eq (hold_ring_queue e s).2 (hold_ring_queue e s).1

theorem raiseAt_calm (a : Addr) (d : EventData) (s : State) : Calm s (s.raiseAt a d) := raise_calm _ s

/-- A verdict posts the record of a queued request or is stored with it (R132). -/
theorem giveVerdict_calm (ticket : Byte) (v : Completion) (s : State) : Calm s (s.giveVerdict ticket v) := by
  refine .of_work (giveVerdict_sameWork ticket v s) fun h => ?_
  unfold State.giveVerdict
  split
  · exact h
  rename_i r hr
  have hpost : (s.postRequest r v).RequestsInRange :=
    (h.dropRequest _).postRecord (h.1 r (List.mem_of_find?_eq_some hr)) (by simp)
  split
  · exact h
  split
  · exact h
  · exact hpost
  split
  · exact hpost
  · obtain ⟨hq, hring⟩ := noteBacklog_queue_ring s
    exact (h.of_eq hq hring).modifyRequest fun _ => id

theorem giveVerdicts_calm (which : Request → Option Completion) (s : State) : Calm s (s.giveVerdicts which) := by
  unfold State.giveVerdicts
  generalize s.queue.filterMap _ = l
  induction l generalizing s with
  | nil => exact .refl s
  | cons w rest ih => exact (giveVerdict_calm w.1 w.2 s).trans (ih _)

theorem giveAddressVerdicts_calm (a : Addr) (v : Completion) (s : State) : Calm s (s.giveAddressVerdicts a v) :=
  giveVerdicts_calm _ s

/-! ## Entries, the FIFO and the negotiation -/

theorem setEntry_calm {s : State} {a : Addr} {e : Entry} (h : (s.entry a).Eases e) : Calm s (s.setEntry a e) := by
  refine .of_settings (setEntry_sameLine a e s).toSameHost.settings id id (fun b => ?_) (fun _ => id) id id
  rw [State.entry_setEntry]
  split
  · rename_i hb
    exact hb ▸ h
  · exact .refl _

theorem modifyEntry_calm {s : State} {a : Addr} {f : Entry → Entry} (h : (s.entry a).Eases (f (s.entry a))) :
    Calm s (s.modifyEntry a f) := setEntry_calm h

theorem mapEntries_calm {s : State} {f : Addr → Entry → Entry} (h : ∀ (a : Addr) (e : Entry), e.Eases (f a e)) :
    Calm s (s.mapEntries f) :=
  .of_settings (mapEntries_sameLine f s).toSameHost.settings id id
    (fun a => by rw [State.entry_mapEntries]; exact h a _) (fun _ => id) id id

theorem appendFifo_calm (a : Addr) (s : State) : Calm s (s.appendFifo a) := by
  unfold State.appendFifo
  split
  · exact .refl s
  · exact .of_eq ⟨rfl, rfl, rfl, rfl, rfl, rfl, rfl, rfl⟩ rfl rfl rfl rfl rfl rfl rfl

theorem prependFifo_calm (a : Addr) (s : State) : Calm s (s.prependFifo a) := by
  unfold State.prependFifo
  split
  · exact .refl s
  · exact .of_eq ⟨rfl, rfl, rfl, rfl, rfl, rfl, rfl, rfl⟩ rfl rfl rfl rfl rfl rfl rfl

theorem dropFifo_calm (a : Addr) (s : State) : Calm s (s.dropFifo a) :=
  .of_eq ⟨rfl, rfl, rfl, rfl, rfl, rfl, rfl, rfl⟩ rfl rfl rfl rfl rfl rfl rfl

theorem setStore_calm (a : Addr) (st : Store) (s : State) : Calm s (s.setStore a st) :=
  .of_work (setStore_sameWork a st s) id

theorem setCause_calm (c : Cause) (s : State) : Calm s (s.setCause c) := .of_work (setCause_sameWork c s) id

/-- The line engine's own fields hold no count. -/
theorem line_calm (s : State) (l : LineState) (x : Option Exchange) : Calm s { s with lineState := l, exchange := x } :=
  .of_eq ⟨rfl, rfl, rfl, rfl, rfl, rfl, rfl, rfl⟩ rfl rfl rfl rfl rfl rfl rfl

/-- The end of a negotiation leaves no commit pending (R91, R94). -/
theorem endNegotiation_calm (s : State) : Calm s s.endNegotiation := by
  refine .of_settings (endNegotiation_sameLine s).toSameHost.settings (by rw [(endNegotiation_sameLine s).passOver]; exact id)
    ?_ (eases_of_roster (endNegotiation_roster s)) ?_ ?_ ?_
  · rw [endNegotiation_eq]; exact id
  · simp [State.NegotiationInRange]
  · rw [endNegotiation_eq]; exact id
  · rw [endNegotiation_eq]; simp [State.CommitLaw, State.withCommitCopied]

theorem endNegotiationOf_calm (a : Addr) (s : State) : Calm s (s.endNegotiationOf a) := by
  unfold State.endNegotiationOf
  split
  · exact .refl s
  split
  · exact endNegotiation_calm s
  · exact .refl s

theorem abandonNegotiation_calm (s : State) : Calm s s.abandonNegotiation := by
  unfold State.abandonNegotiation
  split
  · exact .refl s
  · exact ((modifyEntry_calm (.inactive (by simp) le_rfl (by simp))).trans (prependFifo_calm _ _)).trans (endNegotiation_calm _)

theorem enterPending_calm (a : Addr) (s : State) : Calm s (s.enterPending a) :=
  (modifyEntry_calm (.inactive (by simp) le_rfl le_rfl)).trans (appendFifo_calm a _)

theorem enterLost_calm (a : Addr) (s : State) : Calm s (s.enterLost a) :=
  ((modifyEntry_calm (.inactive (by simp) le_rfl le_rfl)).trans (giveAddressVerdicts_calm a _ _)).trans (raiseAt_calm a _ _)

theorem empty_eases (e : Entry) : e.Eases Entry.empty := .inactive (by simp [Entry.empty]) (Nat.zero_le _) (Nat.zero_le _)

theorem becomeFree_calm (a : Addr) (answered : Bool) (s : State) : Calm s (s.becomeFree a answered) :=
  ((raiseAt_calm a _ s).trans (setEntry_calm (empty_eases _))).trans (dropFifo_calm a _)

/-- A negotiation that goes on from counts in range stays in range, and may hold a commit pending. -/
theorem setNegotiation_calm {s : State} {n : Negotiation}
    (h : s.ConfigLaw → s.NegotiationInRange → n.next ≤ 15 ∧ n.restarts ≤ 2 ∧ n.waits ≤ 15) :
    Calm s { s with negotiation := some n } :=
  .of_settings ⟨rfl, rfl, rfl, rfl, rfl, rfl, rfl, rfl⟩ id id (fun _ => .refl _)
    (fun hc hn m hm => by obtain rfl : n = m := by simpa using hm
                          exact h hc hn) id (fun _ _ => rfl)

end Sys2Proof.Machine
end

section
/-! PROOF. The sources' own work keeps the counts: the roster, the census, the negotiation, the sweep and the dispatcher. -/

namespace Sys2Proof.Machine

/-! ## RELEASE and the CLAIMs of a round -/

theorem countClaim_calm (s : State) : Calm s s.countClaim :=
  .of_settings ⟨rfl, rfl, rfl, rfl, rfl, rfl, rfl, rfl⟩ id (fun _ => Nat.min_le_left _ _) (fun _ => .refl _)
    (fun _ => id) id id

theorem releaseEntry_calm (a : Addr) (s : State) : Calm s (s.releaseEntry a) :=
  ((((giveAddressVerdicts_calm a .released s).trans (endNegotiationOf_calm a _)).trans (dropFifo_calm a _)).trans
    (modifyEntry_calm (.inactive (by simp) le_rfl le_rfl))).trans (setStore_calm a _ _)

theorem releaseEnd_calm (a : Addr) (e : ExchangeEnd) (s : State) : Calm s (s.releaseEnd a e) := by
  unfold State.releaseEnd
  split
  · exact becomeFree_calm a true s
  · exact becomeFree_calm a false s
  · exact becomeFree_calm a false s
  all_goals exact .refl s

theorem rejoin_calm (a : Addr) (s : State) : Calm s (s.rejoin a) := by
  unfold State.rejoin
  refine Calm.trans ?_ (raiseAt_calm a _ _)
  refine Calm.trans ?_ (countClaim_calm _)
  refine Calm.trans ?_ (appendFifo_calm a _)
  refine Calm.trans ?_ (setStore_calm a _ _)
  refine Calm.trans ?_ (modifyEntry_calm (.inactive (by simp [Entry.rejoined]) (Nat.zero_le _) (Nat.zero_le _)))
  exact (giveAddressVerdicts_calm a _ s).trans (endNegotiationOf_calm a _)

theorem claimAccepted_calm (s : State) : Calm s s.claimAccepted := by
  unfold State.claimAccepted
  split
  · exact ((setEntry_calm (.inactive (by simp) (Nat.zero_le _) (Nat.zero_le _))).trans (appendFifo_calm _ _)).trans
      (countClaim_calm _)
  · split
    · exact (modifyEntry_calm (.same rfl rfl rfl rfl)).trans (countClaim_calm _)
    · exact rejoin_calm _ s
  · exact .refl s

theorem assignAddress_calm (u : UnitNumber) (s : State) : Calm s (s.assignAddress u).1 := by
  unfold State.assignAddress
  split
  · exact .refl s
  split
  · exact becomeFree_calm _ _ s
  · exact .refl s

/-! ## The census -/

/-- The census unit's own fields, but for the claims count, hold no count of the laws. -/
theorem census_calm (s : State) (state : CensusState) (owed : Bool) (failures : Nat) (yield : Bool) (round : Option Round)
    (timer : Option Nat) : Calm s { s with
      censusState := state, dismissOwed := owed, failures := failures, yield := yield, round := round, autoTimer := timer } :=
  .of_eq ⟨rfl, rfl, rfl, rfl, rfl, rfl, rfl, rfl⟩ rfl rfl rfl rfl rfl rfl rfl

theorem endRun_calm (o : RunOutcome) (u : UnitNumber) (s : State) : Calm s (s.endRun o u) :=
  ((raise_calm _ s).trans (setCause_calm .census _)).trans (census_calm _ _ _ _ _ _ _)

theorem endRunLine_calm (s : State) : Calm s s.endRunLine := by
  unfold State.endRunLine
  split
  · exact endRun_calm _ _ s
  · exact .refl s

theorem roundEndsRun_calm (o : RunOutcome) (u : UnitNumber) (s : State) : Calm s (s.roundEndsRun o u) := by
  unfold State.roundEndsRun
  split
  · exact endRun_calm _ _ s
  · exact endRun_calm _ _ s

theorem afterRound_calm (s : State) : Calm s s.afterRound := by
  unfold State.afterRound
  split
  · exact endRun_calm _ _ s
  split
  · exact endRun_calm _ _ s
  split
  · exact endRun_calm _ _ s
  · exact census_calm s _ _ _ _ _ _

theorem failRound_calm (s : State) : Calm s s.failRound :=
  Calm.trans (t := { s with failures := s.failures + 1 }) (census_calm s _ _ _ _ _ _) (afterRound_calm _)

theorem dismissSent_calm (s : State) : Calm s s.dismissSent :=
  Calm.trans (t := { s with dismissOwed := false, failures := 0 }) (census_calm s _ _ _ _ _ _) (afterRound_calm _)

theorem censusEnd_calm (e : ExchangeEnd) (s : State) : Calm s (s.censusEnd e) := by
  unfold State.censusEnd
  split
  · exact endRunLine_calm s
  · exact endRunLine_calm s
  · exact dismissSent_calm s
  · exact failRound_calm s
  · exact ((claimAccepted_calm s).trans (census_calm _ _ _ _ _ _ _)).trans (afterRound_calm
      { s.claimAccepted with failures := if s.lineState = .draining then s.failures else 0 })
  all_goals exact .refl s

/-- A run starts with no claims (R54). -/
theorem startRun_calm (fresh : Bool) (s : State) : Calm s (s.startRun fresh) :=
  .of_settings ⟨rfl, rfl, rfl, rfl, rfl, rfl, rfl, rfl⟩ id (fun _ => Nat.zero_le _) (fun _ => .refl _) (fun _ => id) id id

theorem stopRun_calm (s : State) : Calm s s.stopRun := by
  unfold State.stopRun
  split
  · exact endRun_calm _ _ s
  · exact census_calm s _ _ _ _ _ _
  all_goals exact .refl s

/-! ## The negotiation -/

theorem failNegotiation_calm (n : Negotiation) (r : RefusalReason) (s : State) : Calm s (s.failNegotiation n r) :=
  (((modifyEntry_calm (.inactive (by simp) le_rfl le_rfl)).trans (raiseAt_calm _ _ _)).trans
    (giveAddressVerdicts_calm _ _ _)).trans (endNegotiation_calm _)

/-- A protocol error restarts a negotiation twice at most (R82). -/
theorem protocolError_calm {s : State} (n : Negotiation) : Calm s (s.protocolError n) := by
  unfold State.protocolError
  split
  · rename_i h
    have hr : n.restarts < 2 := h
    exact (modifyEntry_calm (a := n.address) (f := fun e => { e with pages := [] })
      ⟨fun k => ⟨k, rfl⟩, le_rfl, Nat.zero_le _⟩).trans (setNegotiation_calm fun _ _ => ⟨by simp, by simp; omega, by simp⟩)
  · exact failNegotiation_calm _ _ s

/-- A WAIT is counted below the wait limit, which is at most 15 (R83, R184). -/
theorem pageWait_calm {s : State} {n : Negotiation} (hn : s.negotiation = some n) : Calm s (s.pageWait n) := by
  unfold State.pageWait
  dsimp only
  split
  · exact protocolError_calm _
  · rename_i h
    refine setNegotiation_calm fun hc hr => ?_
    obtain ⟨hnext, hrestarts, -⟩ := hr n (by simp [hn])
    obtain ⟨-, -, -, ⟨-, hlimit⟩, -⟩ := hc
    exact ⟨hnext, hrestarts, by simp at h ⊢; omega⟩

/-- A resolved negotiation leaves its entry's counts (R88). -/
theorem resolveNegotiation_counts (n : Negotiation) (s : State) : KeepsCounts s (s.resolveNegotiation n) := by
  unfold State.resolveNegotiation
  dsimp only
  split
  · exact (failNegotiation_calm n _ s).toKeepsCounts
  refine KeepsCounts.trans ?_ (((raiseAt_calm _ _ _).trans (giveVerdicts_calm _ _)).trans (endNegotiation_calm _)).toKeepsCounts
  refine ⟨id, id, id, id, fun h a => ?_, fun _ => id, id, id⟩
  rw [State.entry_modifyEntry]
  split
  · exact h _
  · exact h a

/-- A page is kept while fewer than eight are (R80), and index 16 is never due (R81). -/
theorem pageKept_counts {s : State} {n : Negotiation} (w : PageWord) (hn : s.negotiation = some n)
    (hw : pageIsNull w = true ∨ (s.entry n.address).pages.length < 8) : KeepsCounts s (s.pageKept n w) := by
  have hkept : KeepsCounts s (s.modifyEntry n.address fun e => { e with pages := keepPage e.pages w }) := by
    refine ⟨id, id, id, id, fun h a => ?_, fun _ => id, id, id⟩
    rw [State.entry_modifyEntry]
    split
    · refine ⟨(h n.address).1, ?_⟩
      have := (h n.address).2
      unfold keepPage
      split
      · exact this
      · rcases hw with hw | hw
        · contradiction
        · simp; omega
    · exact h a
  unfold State.pageKept
  dsimp only
  split
  · exact hkept.trans (resolveNegotiation_counts n _)
  split
  · exact hkept.trans (failNegotiation_calm n _ _).toKeepsCounts
  · rename_i hnext
    refine hkept.trans (setNegotiation_calm fun _ hr => ?_).toKeepsCounts
    obtain ⟨h1, h2, -⟩ := hr n (by simp [hn])
    simp only [Config.pageIndexLimit] at hnext
    exact ⟨by simp; omega, h2, by simp⟩

theorem judgePage_counts {s : State} {n : Negotiation} (w : PageWord) (hn : s.negotiation = some n) :
    KeepsCounts s (s.judgePage n w) := by
  unfold State.judgePage
  split
  · exact (protocolError_calm n).toKeepsCounts
  split
  · exact (protocolError_calm n).toKeepsCounts
  split
  · exact (failNegotiation_calm n _ s).toKeepsCounts
  split
  · exact (failNegotiation_calm n _ s).toKeepsCounts
  · rename_i h
    refine pageKept_counts w hn (or_iff_not_imp_left.mpr fun hnull => Nat.lt_of_not_le fun hle => h ?_)
    rw [Bool.eq_false_of_not_eq_true hnull, Bool.not_false, Bool.true_and, decide_eq_true_eq]
    exact hle

/-- Every end of a PAGE but an ACK is calm (R82 to R85). -/
theorem pageEnd_calm (a : Addr) {e : ExchangeEnd} (he : ∀ p, e ≠ .ack p) (s : State) : Calm s (s.pageEnd a e) := by
  unfold State.pageEnd
  split
  · exact .refl s
  rename_i n hn
  split
  · exact .refl s
  split
  · exact abandonNegotiation_calm s
  split
  · exact absurd rfl (he _)
  · exact protocolError_calm n
  · exact pageWait_calm hn
  · exact (enterLost_calm a s).trans (endNegotiation_calm _)
  · exact abandonNegotiation_calm s
  · exact abandonNegotiation_calm s
  · exact .refl s

theorem pageEnd_counts (a : Addr) (e : ExchangeEnd) (s : State) : KeepsCounts s (s.pageEnd a e) := by
  by_cases he : ∀ p, e ≠ .ack p
  · exact (pageEnd_calm a he s).toKeepsCounts
  · push Not at he
    obtain ⟨p, rfl⟩ := he
    unfold State.pageEnd
    split
    · exact (Calm.refl s).toKeepsCounts
    rename_i n hn
    split
    · exact (Calm.refl s).toKeepsCounts
    split
    · exact (abandonNegotiation_calm s).toKeepsCounts
    · exact judgePage_counts _ hn

/-! ## Misses and the sweep -/

/-- A miss is counted to 15 at most (R107). -/
theorem addMiss_counts_kept (a : Addr) (s : State) : KeepsCounts s (s.addMiss a) := by
  have hcount : KeepsCounts s (s.modifyEntry a fun e => { e with misses := min Config.nibbleMax ((s.entry a).misses + 1) }) := by
    refine ⟨id, id, id, id, fun h b => ?_, fun _ => id, id, id⟩
    rw [State.entry_modifyEntry]
    split
    · exact ⟨Nat.min_le_left _ _, (h a).2⟩
    · exact h b
  unfold State.addMiss
  dsimp only
  split
  · exact hcount.trans (enterLost_calm a _).toKeepsCounts
  · exact hcount

theorem applyCondition_calm (a : Addr) (c : Condition) (s : State) : Calm s (s.applyCondition a c) := by
  unfold State.applyCondition
  split
  · exact .refl s
  · exact (modifyEntry_calm (.same rfl rfl rfl rfl)).trans (raiseAt_calm a _ _)

theorem applyAttention_calm (a : Addr) (code : Byte) (s : State) : Calm s (s.applyAttention a code) := by
  unfold State.applyAttention
  dsimp only
  split
  · exact (raiseAt_calm a _ s).trans (modifyEntry_calm (.same rfl rfl rfl rfl))
  · exact .refl s

theorem applyAcknowledge_calm (a : Addr) (k : Bool) (s : State) : Calm s (s.applyAcknowledge a k) := by
  unfold State.applyAcknowledge
  split
  · exact modifyEntry_calm (.same rfl rfl rfl rfl)
  · exact .refl s

/-- What follows the return of a node in an answered poll (R102). -/
theorem pollRest_calm (a : Addr) (k : Bool) (code : Byte) (c : Condition) (s : State) :
    Calm s (((s.applyAcknowledge a k).applyCondition a c).applyAttention a code) :=
  ((applyAcknowledge_calm a k s).trans (applyCondition_calm a c _)).trans (applyAttention_calm a code _)

theorem probeReturn_counts (a : Addr) (s : State) : KeepsCounts s (s.probeReturn a) := by
  unfold State.probeReturn
  refine KeepsCounts.trans ?_ (raiseAt_calm a _ _).toKeepsCounts
  split
  · refine ⟨id, id, id, id, fun h b => ?_, fun _ => id, id, id⟩
    rw [State.entry_modifyEntry]
    split
    · exact h a
    · exact h b
  · exact (enterPending_calm a s).toKeepsCounts

theorem pollAnswer_counts (a : Addr) (k : Bool) (code : Byte) (c : Condition) (s : State) :
    KeepsCounts s (s.pollAnswer a k code c) := by
  unfold State.pollAnswer
  dsimp only
  refine KeepsCounts.trans ?_ (pollRest_calm a k code c _).toKeepsCounts
  have hdue : Calm s (s.modifyEntry a fun e => { e with due := false }) := modifyEntry_calm (.same rfl rfl rfl rfl)
  split
  · exact hdue.toKeepsCounts.trans (probeReturn_counts a _)
  · exact hdue.toKeepsCounts

theorem failedPoll_counts (a : Addr) (s : State) : KeepsCounts s (s.failedPoll a) := by
  have hdue : Calm s (s.modifyEntry a fun e => { e with due := false }) := modifyEntry_calm (.same rfl rfl rfl rfl)
  unfold State.failedPoll
  dsimp only
  split
  · exact hdue.toKeepsCounts
  · exact hdue.toKeepsCounts.trans (addMiss_counts_kept a _)

theorem pollEnd_counts (a : Addr) (k : Bool) (e : ExchangeEnd) (s : State) : KeepsCounts s (s.pollEnd a k e) := by
  have hself := (Calm.refl s).toKeepsCounts
  unfold State.pollEnd
  split
  · exact hself
  split
  · split
    · exact pollAnswer_counts a k _ _ s
    · exact hself
  · split
    · exact hself
    · exact failedPoll_counts a s
  · split
    · exact hself
    · exact failedPoll_counts a s
  all_goals exact hself

/-! ## Requests -/

/-- The record of the ON-LINE request takes its counts, and no more than 16 bytes (R131). -/
theorem completeRequest_calm {s : State} {r : Request} {c : Completion} {reason : BitVec 4} {p : List Byte}
    (hr : s.RequestsInRange → r.attempts ≤ 15 ∧ r.waits ≤ 15) (hp : p.length ≤ 16) :
    Calm s (s.completeRequest r c reason p) :=
  .of_work (completeRequest_sameWork r c reason p s) fun h => (h.dropRequest _).postRecord (hr h) hp

theorem holdOrEnd_calm {s : State} {r : Request} (hr : s.RequestsInRange → r.attempts ≤ 15 ∧ r.waits ≤ 15) :
    Calm s (s.holdOrEnd r) := by
  unfold State.holdOrEnd
  split
  · exact completeRequest_calm hr (by simp)
  split
  · exact completeRequest_calm hr (by simp)
  · exact .of_work (modifyRequest_sameWork _ _ s) fun h => h.modifyRequest fun _ _ => hr h

theorem waitRequest_calm {s : State} {r : Request} (hr : s.RequestsInRange → r.attempts ≤ 15 ∧ r.waits ≤ 15) :
    Calm s (s.waitRequest r) := by
  have hw : s.RequestsInRange → r.waited.attempts ≤ 15 ∧ r.waited.waits ≤ 15 :=
    fun h => ⟨(hr h).1, Nat.min_le_left _ _⟩
  unfold State.waitRequest
  split
  · exact completeRequest_calm hw (by simp)
  · exact holdOrEnd_calm hw

theorem missFor_counts_kept (r : Request) (s : State) : KeepsCounts s (s.missFor r) := by
  unfold State.missFor
  split
  · exact (Calm.refl s).toKeepsCounts
  split
  · exact (Calm.refl s).toKeepsCounts
  · exact addMiss_counts_kept _ s

/-- The payload that an end hands over, if it has one, is that of a response (R28). -/
def ExchangeEnd.Fits (e : ExchangeEnd) : Prop := ∀ p, e = .ack p → p.length ≤ 16

/-- Every end of a request's exchange but attempts exhausted is calm. -/
theorem requestEnd_calm {e : ExchangeEnd} (s : State) (he : ∀ o, e ≠ .exhausted o) (hfit : e.Fits) :
    Calm s (s.requestEnd e) := by
  unfold State.requestEnd
  split
  · exact .refl s
  rename_i r hr
  have hin : s.RequestsInRange → r.attempts ≤ 15 ∧ r.waits ≤ 15 := fun h => h.1 r (List.mem_of_find?_eq_some hr)
  split
  · exact completeRequest_calm hin (hfit _ rfl)
  · exact completeRequest_calm hin (by simp)
  · exact completeRequest_calm hin (by simp)
  · exact waitRequest_calm hin
  · exact absurd rfl (he _)
  · exact holdOrEnd_calm hin
  · exact completeRequest_calm hin (by simp)

theorem requestEnd_counts {e : ExchangeEnd} (s : State) (hfit : e.Fits) : KeepsCounts s (s.requestEnd e) := by
  by_cases he : ∀ o, e ≠ .exhausted o
  · exact (requestEnd_calm s he hfit).toKeepsCounts
  · push Not at he
    obtain ⟨o, rfl⟩ := he
    unfold State.requestEnd
    split
    · exact (Calm.refl s).toKeepsCounts
    rename_i r hr
    exact (completeRequest_calm (fun h => h.1 r (List.mem_of_find?_eq_some hr)) (by simp)).toKeepsCounts.trans
      (missFor_counts_kept r _)

/-! ## The end handed to a source -/

theorem handEnd_counts {x : Exchange} {e : ExchangeEnd} (s : State) (hfit : e.Fits) : KeepsCounts s (s.handEnd x e) := by
  unfold State.handEnd
  split
  · exact (releaseEnd_calm _ e s).toKeepsCounts
  · exact pageEnd_counts _ e s
  · exact pollEnd_counts _ _ e s
  · exact (censusEnd_calm e s).toKeepsCounts
  · exact requestEnd_counts s hfit
  all_goals exact (Calm.refl s).toKeepsCounts

/-- Ends that bring neither an answer nor a miss are calm. -/
theorem handEnd_calm {x : Exchange} {e : ExchangeEnd} (s : State) (he : e = .sent ∨ e = .interrupted ∨ e = .faulted) :
    Calm s (s.handEnd x e) := by
  have hack : ∀ p, e ≠ .ack p := by rcases he with rfl | rfl | rfl <;> simp
  unfold State.handEnd
  split
  · exact releaseEnd_calm _ e s
  · exact pageEnd_calm _ hack s
  · rename_i a _ _
    have : s.pollEnd a x.frame.ackFlag e = s := by
      rcases he with rfl | rfl | rfl <;> simp [State.pollEnd]
    rw [this]
    exact .refl s
  · exact censusEnd_calm e s
  · exact requestEnd_calm s (by rcases he with rfl | rfl | rfl <;> simp) fun p hp => absurd hp (hack p)
  all_goals exact .refl s

end Sys2Proof.Machine
end

section
/-! PROOF. The line engine and the commands that reach the exchange on the line keep the counts, and all but a failed attempt,
an accepted answer and a write of MISSLIM are calm. -/

namespace Sys2Proof.Machine

/-! ## The line is freed, and the emptying stage -/

theorem settleYield_calm (s : State) : Calm s s.settleYield := by
  unfold State.settleYield
  split
  · exact census_calm s _ _ _ _ _ _
  · exact .refl s

theorem lineFreed_calm (s : State) : Calm s s.lineFreed := by
  unfold State.lineFreed
  split
  · exact (line_calm s .idle s.exchange).trans (settleYield_calm _)
  · exact (line_calm s .off s.exchange).trans (setCause_calm .drained _)
  all_goals exact .refl s

/-- The emptying stage leaves no count but the claims (R172). -/
theorem finishClear_calm (s : State) : Calm s s.finishClear := by
  refine .of_settings (finishClear_sameHost s).settings (fun _ => Nat.zero_le _) ?_
    (fun a => (finishClear_entry s a).1 ▸ empty_eases _) (fun _ _ n hn => ?_) (fun _ => ⟨nofun, nofun⟩) (fun _ hc => ?_)
  · rw [show s.finishClear.claims = s.endNegotiation.claims from rfl, endNegotiation_eq]
    exact id
  · rw [show s.finishClear.negotiation = s.endNegotiation.negotiation from rfl, endNegotiation_negotiation] at hn
    simp at hn
  · rw [show s.finishClear.commitPending = s.endNegotiation.commitPending from rfl, endNegotiation_eq] at hc
    simp [State.withCommitCopied] at hc

theorem drained_calm (s : State) : Calm s s.drained := by
  unfold State.drained
  split
  · exact .refl s
  · exact finishClear_calm s

/-! ## The end of an exchange, as a rule for what calm changes keep -/

section
variable {P : State → Prop} (hcalm : ∀ {s t : State}, Calm s t → P s → P t)
include hcalm

/-- What calm changes keep is kept by the end of an exchange, if the source that it is handed to keeps it. -/
theorem endExchange_keeps {s : State} {e : ExchangeEnd} (hs : P s)
    (hhand : ∀ x, s.exchange = some x → P (({ s with exchange := none } : State).handEnd x e)) : P (s.endExchange e) := by
  have h0 : P { s with exchange := none } := hcalm (line_calm s s.lineState none) hs
  unfold State.endExchange
  split
  · exact hs
  rename_i x hx
  dsimp only
  split
  · exact hcalm (finishClear_calm _) (hcalm (lineFreed_calm _) h0)
  split
  · exact hcalm (drained_calm _) (hcalm (lineFreed_calm _) h0)
  · exact hcalm (lineFreed_calm _) (hhand x hx)

/-- What calm changes keep is kept by a failed attempt, if every source keeps it at an interrupted and an exhausted end. -/
theorem attemptFails_keeps {s : State} (x : Exchange) (reason : Failure) (hs : P s)
    (hhand : ∀ (t : State) (y : Exchange) (o : Bool), P t → P (t.handEnd y (.exhausted o))) : P (s.attemptFails x reason) := by
  have h1 (y : Exchange) : P { s with exchange := some y } := hcalm (line_calm s s.lineState (some y)) hs
  have h0 : P { s with exchange := none } := hcalm (line_calm s s.lineState none) hs
  unfold State.attemptFails
  dsimp only
  split
  · exact endExchange_keeps hcalm (h1 _) fun y _ => hcalm (handEnd_calm _ (.inr (.inl rfl))) h0
  split
  · exact h1 _
  · exact endExchange_keeps hcalm (h1 _) fun y _ => hhand _ y _ h0

end

theorem endExchange_calm {e : ExchangeEnd} (s : State) (he : e = .sent ∨ e = .interrupted ∨ e = .faulted) :
    Calm s (s.endExchange e) :=
  endExchange_keeps (P := Calm s) (fun h k => k.trans h) (.refl s) fun _ _ =>
    (line_calm s s.lineState none).trans (handEnd_calm _ he)

theorem lineFault_calm (kind : FaultKind) (s : State) : Calm s (s.lineFault kind) := by
  unfold State.lineFault
  split
  · exact .refl s
  rename_i x hx
  dsimp only
  have h0 : Calm s (if x.discard = true then { s with exchange := none }
      else State.handEnd x .faulted { s with exchange := none }) := by
    split
    · exact line_calm s s.lineState none
    · exact (line_calm s s.lineState none).trans (handEnd_calm _ (.inr (.inr rfl)))
  have h1 := (h0.trans (endRunLine_calm _)).trans (abandonNegotiation_calm _)
  have h2 (u : State) : Calm u (State.setCause .fault { u with lineState := .fault, faultKind := kind }) :=
    .of_eq ⟨rfl, rfl, rfl, rfl, rfl, rfl, rfl, rfl⟩ rfl rfl rfl rfl rfl rfl rfl
  split
  · exact (h1.trans (h2 _)).trans (finishClear_calm _)
  · exact h1.trans (h2 _)

/-! ## Attempts -/

/-- A lead-in counts an attempt of the ON-LINE request, to 15 at most (R117, R122). -/
theorem leadIn_calm (x : Exchange) (s : State) : Calm s (s.leadIn x) := by
  have h1 : Calm s { s with exchange := some (s.exchangeAtLeadIn x), lineRateInForce := s.lineRate } :=
    .of_eq ⟨rfl, rfl, rfl, rfl, rfl, rfl, rfl, rfl⟩ rfl rfl rfl rfl rfl rfl rfl
  unfold State.leadIn
  dsimp only
  split
  · exact h1.trans (.of_work (modifyRequest_sameWork _ _ _) fun h => h.modifyRequest fun _ hr => ⟨Nat.min_le_left _ _, hr.2⟩)
  · exact h1

theorem lineCheck_calm (x : Exchange) (mda : Level) (s : State) : Calm s (s.lineCheck x mda) := by
  unfold State.lineCheck
  split
  · exact leadIn_calm x s
  · exact line_calm s s.lineState _

theorem openExchange_calm (x : Exchange) (mda : Level) (s : State) : Calm s (s.openExchange x mda) :=
  (line_calm s .busy s.exchange).trans (lineCheck_calm x mda _)

theorem commandTail_calm (x : Exchange) (s : State) : Calm s (s.commandTail x) := by
  unfold State.commandTail
  split
  · exact endExchange_calm s (.inl rfl)
  all_goals exact line_calm s s.lineState _

theorem interrupt_calm (s : State) : Calm s s.interrupt := by
  unfold State.interrupt
  split
  · exact .refl s
  dsimp only
  split
  · exact line_calm s s.lineState _
  · exact (line_calm s s.lineState _).trans (endExchange_calm _ (.inr (.inl rfl)))

theorem closeField_calm {after : State → State} (h : ∀ t, Calm t (after t)) (s : State) : Calm s (s.closeField after) :=
  ((line_calm s s.lineState none).trans (h _)).trans (lineFreed_calm _)

theorem judgeField_calm (x : Exchange) (u : UnitNumber) (check : Byte) (mda : Level) (s : State) :
    Calm s (s.judgeField x u check mda) := by
  unfold State.judgeField
  split
  · exact closeField_calm (roundEndsRun_calm _ _) s
  split
  · exact closeField_calm failRound_calm s
  have h0 := assignAddress_calm u s
  generalize s.assignAddress u = p at h0
  obtain ⟨t, chosen⟩ := p
  dsimp only at h0 ⊢
  split
  · exact h0.trans (closeField_calm (roundEndsRun_calm _ _) t)
  · exact (h0.trans (census_calm t _ _ _ _ _ _)).trans (lineCheck_calm _ mda _)

/-! ## Grants -/

/-- The oldest ready request is the first of the queue that is ready, and comes ON-LINE (R119, R121). -/
theorem startFirst_some {s : State} {older rest queue : List Request} {r : Request}
    (h : s.startFirst older rest = some (r, queue)) : ∃ before after, rest = before ++ r :: after ∧
      queue = before ++ { r with phase := .onLine } :: after := by
  induction rest generalizing older queue with
  | nil => simp [State.startFirst] at h
  | cons q rest ih =>
    unfold State.startFirst at h
    split at h
    · obtain ⟨rfl, rfl⟩ : q = r ∧ { q with phase := .onLine } :: rest = queue := by simpa using h
      exact ⟨[], rest, rfl, rfl⟩
    · obtain ⟨⟨p, l⟩, hl, hpl⟩ := Option.map_eq_some_iff.mp h
      obtain ⟨rfl, rfl⟩ : p = r ∧ q :: l = queue := by simpa using hpl
      obtain ⟨before, after, rfl, rfl⟩ := ih hl
      exact ⟨q :: before, after, rfl, rfl⟩

/-- A grant may change the arbiter's own fields. -/
theorem arbiter_calm {s : State} {k : Nat} (pointer : Fin 25) (h : s.passOver ≤ 8 → k ≤ 8) :
    Calm s { s with passOver := k, yield := false, sweepPointer := pointer } :=
  .of_settings ⟨rfl, rfl, rfl, rfl, rfl, rfl, rfl, rfl⟩ h id (fun _ => .refl _) (fun _ => id) id id

/-- The pass-over count rises only below 8 (R50). -/
theorem passOverAfter_le {s : State} (hg : s.grantChoice = some .negotiate ∨ s.grantChoice = some .sweep)
    (h : s.passOver ≤ 8) : s.passOverAfter ≤ 8 := by
  unfold State.passOverAfter
  split
  · rename_i hd
    have : ¬8 ≤ s.passOver := by
      intro hle
      unfold State.grantChoice at hg
      rw [hd, Bool.true_and, decide_eq_true (show Config.passOverLimit ≤ s.passOver from hle)] at hg
      repeat' split at hg
      all_goals simp_all
    omega
  · exact h

theorem grantCensus_calm (mda : Level) (s : State) : Calm s (s.grantCensus mda) := by
  unfold State.grantCensus
  split
  · exact (census_calm s _ _ _ _ _ _).trans (openExchange_calm _ mda _)
  · exact (census_calm s _ _ _ _ _ _).trans (openExchange_calm _ mda _)

/-- A negotiation starts with its counts 0 and its entry's pages cleared (R78). -/
theorem startNegotiation_calm (a : Addr) (s : State) : Calm s (s.startNegotiation a) := by
  have h1 : Calm s (s.modifyEntry a fun e => { e with state := .negotiating, due := false, pages := [] }) :=
    modifyEntry_calm (.inactive (by simp) le_rfl (Nat.zero_le _))
  have h2 (u : State) (l : List Addr) : Calm u { u with fifo := l } :=
    .of_eq ⟨rfl, rfl, rfl, rfl, rfl, rfl, rfl, rfl⟩ rfl rfl rfl rfl rfl rfl rfl
  exact (h1.trans (h2 _ s.fifo.tail)).trans (setNegotiation_calm fun _ _ => ⟨Nat.zero_le _, Nat.zero_le _, Nat.zero_le _⟩)

theorem grantNegotiate_calm {s : State} (mda : Level) (h : s.passOver ≤ 8 → s.passOverAfter ≤ 8) :
    Calm s (s.grantNegotiate mda) := by
  have h1 := arbiter_calm s.sweepPointer h
  unfold State.grantNegotiate
  dsimp only
  split
  · exact h1.trans (openExchange_calm _ mda _)
  · exact (h1.trans (startNegotiation_calm _ _)).trans (openExchange_calm _ mda _)
  · exact .refl s

theorem grantDispatch_calm (mda : Level) (s : State) : Calm s (s.grantDispatch mda) := by
  unfold State.grantDispatch
  split
  · exact .refl s
  rename_i r queue hstart
  obtain ⟨before, after, hq, rfl⟩ := startFirst_some hstart
  refine ((arbiter_calm (k := 0) s.sweepPointer (fun _ => Nat.zero_le _)).trans ?_).trans (openExchange_calm _ mda _)
  refine .of_settings ⟨rfl, rfl, rfl, rfl, rfl, rfl, rfl, rfl⟩ id id (fun _ => .refl _) (fun _ => id)
    (fun hr => ⟨fun q hm => ?_, hr.2⟩) id
  have hin : ∀ p ∈ before ++ r :: after, p.attempts ≤ 15 ∧ p.waits ≤ 15 := fun p hp => hr.1 p (hq ▸ hp)
  rcases List.mem_append.mp hm with hm | hm
  · exact hin q (by simp [hm])
  rcases List.mem_cons.mp hm with rfl | hm
  · exact hin r (by simp)
  · exact hin q (by simp [hm])

/-- A grant keeps the counts (R50). -/
theorem grant_calm (mda : Level) (s : State) : Calm s (s.grant mda) := by
  have hset := settleYield_calm s
  unfold State.grant
  dsimp only
  generalize s.settleYield = u at hset
  split
  · split
    · exact (hset.trans (arbiter_calm u.sweepPointer id)).trans (openExchange_calm _ mda _)
    · exact .refl s
  · exact hset.trans (grantCensus_calm mda u)
  · rename_i hg
    exact hset.trans (grantNegotiate_calm mda (passOverAfter_le (.inl hg)))
  · rename_i hg
    split
    · exact (hset.trans (arbiter_calm _ (passOverAfter_le (.inr hg)))).trans (openExchange_calm _ mda _)
    · exact .refl s
  · exact hset.trans (grantDispatch_calm mda u)
  all_goals exact .refl s

/-! ## LINE DISABLE, CLEAR and ABORT -/

theorem disableWaiting_calm (s : State) : Calm s s.disableWaiting := by
  have h1 : Calm s (if s.onLineOf .census then s else s.endRunLine) := by
    split
    · exact .refl s
    · exact endRunLine_calm s
  unfold State.disableWaiting
  dsimp only
  split
  · exact h1
  · exact h1.trans (abandonNegotiation_calm _)

theorem disableLine_calm (s : State) : Calm s s.disableLine := by
  have h1 := disableWaiting_calm s
  unfold State.disableLine
  dsimp only
  split
  · exact (h1.trans (line_calm _ .draining _)).trans (interrupt_calm _)
  · exact (h1.trans (line_calm _ .off _)).trans (setCause_calm .drained _)

/-- A CLEAR drops the run and its claims (R68, R170). -/
theorem clearTaken_calm (s : State) : Calm s s.clearTaken := by
  have h1 : Calm s { s.dropRun with clearing := true } :=
    .of_settings ⟨rfl, rfl, rfl, rfl, rfl, rfl, rfl, rfl⟩ id (fun _ => Nat.zero_le _) (fun _ => .refl _) (fun _ => id) id id
  have h2 : Calm s (State.markDiscard { s.dropRun with clearing := true }).interrupt :=
    (h1.trans (line_calm _ s.lineState (s.exchange.map fun x => { x with discard := true }))).trans (interrupt_calm _)
  unfold State.clearTaken
  dsimp only
  split
  · exact h2
  · exact h2
  · exact h1
  all_goals exact h1.trans (finishClear_calm _)

theorem markAborted_calm (ticket : Byte) (s : State) : Calm s (s.markAborted ticket) :=
  .of_work (modifyRequest_sameWork _ _ s) fun h => h.modifyRequest fun _ => id

theorem abortRequest_calm (r : Request) (s : State) : Calm s (s.abortRequest r) := by
  have h1 := markAborted_calm r.ticket s
  unfold State.abortRequest
  split
  · exact h1.trans (giveVerdict_calm _ _ _)
  · exact h1.trans (giveVerdict_calm _ _ _)
  split
  · exact .refl s
  · exact h1.trans (interrupt_calm _)

/-! ## SUBMIT, RETIRE and COMMIT OFFER -/

/-- A submitted request has used no attempt and no WAIT (R115). -/
theorem submitRequest_calm (s : State) : Calm s s.submitRequest := by
  unfold State.submitRequest
  split
  · exact .refl s
  · refine .of_settings ⟨rfl, rfl, rfl, rfl, rfl, rfl, rfl, rfl⟩ id id (fun _ => .refl _) (fun _ => id)
      (fun hr => ⟨fun q hm => ?_, hr.2⟩) id
    rcases List.mem_append.mp hm with hm | hm
    · exact hr.1 q hm
    · obtain rfl := List.mem_singleton.mp hm
      exact ⟨Nat.zero_le _, Nat.zero_le _⟩

theorem postEvent_calm (e : EventRecord) (s : State) : Calm s (s.post (.event e)) :=
  .of_work (post_sameWork _ s) fun h => h.postEvent e

theorem attentionPosted_calm (a : Addr) (e : EventRecord) (s : State) : Calm s (s.attentionPosted a e) := by
  unfold State.attentionPosted
  split
  · exact modifyEntry_calm (.same rfl rfl rfl rfl)
  · exact .refl s

theorem postFromStores_calm (l : List Addr) (s : State) : Calm s (s.postFromStores l) := by
  induction l with
  | nil => exact .refl s
  | cons a rest ih =>
    unfold State.postFromStores
    split
    · exact ih
    · exact ((setStore_calm a _ s).trans (postEvent_calm _ _)).trans (attentionPosted_calm a _ _)

/-- The first waiting item is posted with its own counts (R153). -/
theorem postFirstWaiting_calm (s : State) : Calm s s.postFirstWaiting := by
  unfold State.postFirstWaiting
  split
  · rename_i r hr
    exact .of_work ((dropRequest_sameWork _ s).trans (post_sameWork _ _)) fun h =>
      (h.dropRequest _).postRecord (h.1 r (List.mem_of_find?_eq_some hr)) (by simp)
  split
  · exact Calm.trans (t := { s with censusSlot := none })
      (.of_eq ⟨rfl, rfl, rfl, rfl, rfl, rfl, rfl, rfl⟩ rfl rfl rfl rfl rfl rfl rfl) (postEvent_calm _ _)
  · exact postFromStores_calm _ s

theorem retireHead_calm (s : State) : Calm s s.retireHead := by
  refine Calm.trans (t := { s with ring := s.ring.tail }) ?_ (postFirstWaiting_calm _)
  exact .of_settings ⟨rfl, rfl, rfl, rfl, rfl, rfl, rfl, rfl⟩ id id (fun _ => .refl _) (fun _ => id)
    (fun hr => ⟨hr.1, fun r hm => hr.2 r (List.mem_of_mem_tail hm)⟩) id

/-- A commit becomes pending only behind a negotiation in progress (R93). -/
theorem commitOffer_calm (s : State) : Calm s s.commitOffer := by
  unfold State.commitOffer
  split
  · rename_i hn
    exact .of_settings ⟨rfl, rfl, rfl, rfl, rfl, rfl, rfl, rfl⟩ id id (fun _ => .refl _) (fun _ => id) id (fun _ _ => hn)
  · exact .of_eq ⟨rfl, rfl, rfl, rfl, rfl, rfl, rfl, rfl⟩ rfl rfl rfl rfl rfl rfl rfl

end Sys2Proof.Machine
end

section
/-! PROOF. What every step does to the counts, to the ACTIVE entries and to the line, and with it the laws of the line (O53) and
of the counts (O60). -/

namespace Sys2Proof.Machine

/-! ## Registers, the window and the timers -/

/-- Only registers and the pointer of the window are written. -/
theorem Calm.of_registers {s t : State} (hconfig : s.ConfigLaw → t.ConfigLaw)
    (hpointer : s.latchPointer ≤ s.latchEnd → t.latchPointer ≤ t.latchEnd) (hlimit : t.missLimit = s.missLimit)
    (hpass : t.passOver = s.passOver) (hclaims : t.claims = s.claims) (hroster : t.roster = s.roster)
    (hneg : t.negotiation = s.negotiation) (hqueue : t.queue = s.queue) (hring : t.ring = s.ring)
    (hcommit : t.commitPending = s.commitPending) : Calm s t where
  config := hconfig
  pointer := hpointer
  passOver := hpass ▸ id
  claims := hclaims ▸ id
  entries := EntriesInRange.ease (eases_of_roster hroster)
  negotiation _ := by rw [State.NegotiationInRange, State.NegotiationInRange, hneg]; exact id
  requests h := h.of_eq hqueue hring
  commit := by rw [State.CommitLaw, State.CommitLaw, hneg, hcommit]; exact id
  missLimit := hlimit
  eases := eases_of_roster hroster

/-- A clamped value is in its range (spec/00 Clamped writes). -/
theorem clamp_range {low high : Byte} (h : low ≤ high) (v : Byte) :
    low.toNat ≤ (clamp low high v).toNat ∧ (clamp low high v).toNat ≤ high.toNat := by
  rw [BitVec.le_def] at h
  unfold clamp
  split
  · exact ⟨le_rfl, h⟩
  rename_i hlow
  rw [BitVec.lt_def, not_lt] at hlow
  split
  · exact ⟨h, le_rfl⟩
  rename_i hhigh
  rw [BitVec.lt_def, not_lt] at hhigh
  exact ⟨hlow, hhigh⟩

/-- A plain register stores a value of its range (R184). -/
theorem writePlain_calm (r : Register) (v : Byte) (s : State) : Calm s (s.writePlain r v) := by
  cases r
  case linerate =>
    have hrate := (clamp_range (show (0 : Byte) ≤ 5 by decide) v).2
    exact .of_registers (fun ⟨_, h⟩ => ⟨hrate, h⟩) id rfl rfl rfl rfl rfl rfl rfl rfl
  case retrylim =>
    have hretry := (clamp_range (show (0 : Byte) ≤ 7 by decide) v).2
    exact .of_registers (fun ⟨h0, h1, _, h⟩ => ⟨h0, h1, hretry, h⟩) id rfl rfl rfl rfl rfl rfl rfl rfl
  case waitlim =>
    have hwait := clamp_range (show (1 : Byte) ≤ 15 by decide) v
    exact .of_registers (fun ⟨h0, h1, h2, _, h⟩ => ⟨h0, h1, h2, hwait, h⟩) id rfl rfl rfl rfl rfl rfl rfl rfl
  case holdoff =>
    have htime := (clamp_range (show (1 : Byte) ≤ 255 by decide) v).1
    exact .of_registers (fun ⟨h0, h1, h2, h3, _, h⟩ => ⟨h0, h1, h2, h3, htime, h⟩) id rfl rfl rfl rfl rfl rfl rfl rfl
  case arg k => exact .of_eq ⟨rfl, rfl, rfl, rfl, rfl, rfl, rfl, rfl⟩ rfl rfl rfl rfl rfl rfl rfl
  all_goals exact .refl s

theorem writeSweepInterval_calm (v : Byte) (s : State) : Calm s (s.writeSweepInterval v) :=
  .of_registers (fun ⟨h0, _, h⟩ => ⟨h0, (clamp_range (show (1 : Byte) ≤ 255 by decide) v).1, h⟩) id rfl rfl rfl rfl rfl rfl
    rfl rfl

/-- The pointer does not pass its end (R182). -/
theorem advancePointer_calm (s : State) : Calm s s.advancePointer := by
  unfold State.advancePointer
  split
  · exact .of_registers id (fun _ => by assumption) rfl rfl rfl rfl rfl rfl rfl rfl
  · exact .refl s

theorem storeByte_calm (v : Byte) (s : State) : Calm s (s.storeByte v) := by
  unfold State.storeByte
  split
  · exact .of_eq ⟨rfl, rfl, rfl, rfl, rfl, rfl, rfl, rfl⟩ rfl rfl rfl rfl rfl rfl rfl
  · exact .of_eq ⟨rfl, rfl, rfl, rfl, rfl, rfl, rfl, rfl⟩ rfl rfl rfl rfl rfl rfl rfl
  all_goals exact .refl s

theorem writeTableByte_calm (v : Byte) (s : State) : Calm s (s.writeTableByte v) := by
  unfold State.writeTableByte
  split
  · exact (storeByte_calm v s).trans (advancePointer_calm _)
  · exact .refl s

theorem writeBinding_calm (p : Option Binding → Bool) (row : Option Binding) (s : State) : Calm s (s.writeBinding p row) := by
  rcases writeBinding_cases p row s with k | ⟨i, k⟩ <;> rw [k]
  · exact .refl s
  · exact .of_eq ⟨rfl, rfl, rfl, rfl, rfl, rfl, rfl, rfl⟩ rfl rfl rfl rfl rfl rfl rfl

/-- A tick marks entries due (R98). -/
theorem tick_calm (s : State) : Calm s s.tick :=
  (mapEntries_calm (f := fun a e => { e with due := e.due || e.marked (s.tickCounter + 1).toNat a })
    fun _ _ => .same rfl rfl rfl rfl).trans (.of_eq ⟨rfl, rfl, rfl, rfl, rfl, rfl, rfl, rfl⟩ rfl rfl rfl rfl rfl rfl rfl)

/-! ## MISSLIM and RESET# -/

/-- An entry under a limit gains no misses, and stays in its state (R109). -/
theorem underLimit_fields (limit : Nat) (e : Entry) : (e.underLimit limit).state = e.state ∧
    (e.underLimit limit).terms = e.terms ∧ (e.underLimit limit).pages = e.pages ∧ (e.underLimit limit).misses ≤ e.misses := by
  unfold Entry.underLimit
  split
  · rename_i h
    exact ⟨rfl, rfl, rfl, (Nat.sub_le _ _).trans h.2⟩
  · exact ⟨rfl, rfl, rfl, le_rfl⟩

theorem underLimit_below {limit : Nat} {e : Entry} (hl : 0 < limit) (h : (e.underLimit limit).state = .active) :
    (e.underLimit limit).misses < limit := by
  have hact : e.state = .active := (underLimit_fields limit e).1 ▸ h
  unfold Entry.underLimit
  split
  · exact Nat.sub_lt hl Nat.zero_lt_one
  · rename_i hn
    exact Nat.lt_of_not_le fun hle => hn ⟨hact, hle⟩

theorem writeMissLimit_entry (v : Byte) (s : State) (a : Addr) :
    (s.writeMissLimit v).entry a = (s.entry a).underLimit (clamp 1 15 v).toNat := State.entry_mapEntries s _ a

theorem writeMissLimit_counts (v : Byte) (s : State) : KeepsCounts s (s.writeMissLimit v) := by
  refine ⟨fun ⟨h0, h1, h2, h3, h4, _⟩ => ⟨h0, h1, h2, h3, h4, clamp_range (show (1 : Byte) ≤ 15 by decide) v⟩, id, id, id,
    fun h a => ?_, fun _ => id, id, id⟩
  obtain ⟨-, -, hpages, hmisses⟩ := underLimit_fields (clamp 1 15 v).toNat (s.entry a)
  rw [writeMissLimit_entry, hpages]
  exact ⟨hmisses.trans (h a).1, (h a).2⟩

/-- A new miss limit stands above the misses of every ACTIVE entry (R109). -/
theorem writeMissLimit_activeLaw (v : Byte) {s : State} (h : s.ActiveLaw) : (s.writeMissLimit v).ActiveLaw := by
  have hl : 0 < (clamp 1 15 v).toNat := (clamp_range (show (1 : Byte) ≤ 15 by decide) v).1
  refine ⟨hl, fun a ha => ?_⟩
  rw [writeMissLimit_entry] at ha ⊢
  obtain ⟨hstate, hterms, -, -⟩ := underLimit_fields (clamp 1 15 v).toNat (s.entry a)
  exact ⟨hterms ▸ (h.2 a (hstate ▸ ha)).1, underLimit_below hl ha⟩

theorem hardwareReset_counts (s : State) : KeepsCounts s s.hardwareReset := by
  obtain ⟨-, -, hrange, hconfig, hcommit⟩ := reset_tableLaws
  obtain ⟨hpass, hclaims, hptr, hentries, hneg, hreq⟩ := hrange
  exact ⟨fun _ => hconfig, fun _ => hptr, fun _ => hpass, fun _ => hclaims, fun _ => hentries, fun _ _ => hneg,
    fun _ => hreq, fun _ => hcommit⟩

/-! ## ACTIVE entries through misses, resolutions and returns -/

/-- An entry is written that is not ACTIVE, or has terms and misses below the limit. -/
theorem State.ActiveLaw.setEntry {s : State} {a : Addr} {e : Entry} (h : s.ActiveLaw)
    (he : e.state = .active → e.terms.isSome = true ∧ e.misses < s.missLimit.toNat) : (s.setEntry a e).ActiveLaw := by
  refine ⟨h.1, fun b hb => ?_⟩
  rw [State.entry_setEntry] at hb ⊢
  split
  · rename_i hba
    rw [if_pos hba] at hb
    exact he hb
  · rename_i hba
    rw [if_neg hba] at hb
    exact h.2 b hb

/-- At the miss limit an ACTIVE entry becomes LOST (R108). -/
theorem State.ActiveLaw.addMiss {s : State} (a : Addr) (h : s.ActiveLaw) : (s.addMiss a).ActiveLaw := by
  unfold State.addMiss
  dsimp only
  split
  · refine Calm.activeLaw ((giveAddressVerdicts_calm a _ _).trans (raiseAt_calm a _ _)) ?_
    simp only [State.modifyEntry, setEntry_setEntry]
    exact h.setEntry fun k => by simp at k
  · rename_i hbelow
    refine h.setEntry fun hact => ⟨(h.2 a hact).1, Nat.lt_of_not_le fun hle => hbelow ?_⟩
    rw [Bool.and_eq_true, decide_eq_true_eq, decide_eq_true_eq]
    exact ⟨hact, hle⟩

theorem State.ActiveLaw.missFor {s : State} (r : Request) (h : s.ActiveLaw) : (s.missFor r).ActiveLaw := by
  unfold State.missFor
  split
  · exact h
  split
  · exact h
  · exact h.addMiss _

theorem State.ActiveLaw.failedPoll {s : State} (a : Addr) (h : s.ActiveLaw) : (s.failedPoll a).ActiveLaw := by
  have hdue : (s.modifyEntry a fun e => { e with due := false }).ActiveLaw := h.setEntry fun hact => h.2 a hact
  unfold State.failedPoll
  dsimp only
  split
  · exact hdue
  · exact hdue.addMiss a

/-- A resolved entry is ACTIVE with its terms (R88). -/
theorem State.ActiveLaw.resolveNegotiation {s : State} {n : Negotiation} (h : s.ActiveLaw)
    (hm : (s.entry n.address).misses < s.missLimit.toNat) : (s.resolveNegotiation n).ActiveLaw := by
  unfold State.resolveNegotiation
  dsimp only
  split
  · exact (failNegotiation_calm n _ s).activeLaw h
  · exact (((raiseAt_calm _ _ _).trans (giveVerdicts_calm _ _)).trans (endNegotiation_calm _)).activeLaw
      (h.setEntry fun _ => ⟨rfl, hm⟩)

/-- A node page that was just answered keeps the law: its entry has no misses. -/
theorem State.ActiveLaw.judgePage {s : State} {n : Negotiation} (w : PageWord) (h : s.ActiveLaw)
    (hm : (s.entry n.address).misses < s.missLimit.toNat) : (s.judgePage n w).ActiveLaw := by
  have hkept : (s.modifyEntry n.address fun e => { e with pages := keepPage e.pages w }).ActiveLaw :=
    h.setEntry fun hact => h.2 _ hact
  unfold State.judgePage
  split
  · exact (protocolError_calm n).activeLaw h
  split
  · exact (protocolError_calm n).activeLaw h
  split
  · exact (failNegotiation_calm n _ s).activeLaw h
  split
  · exact (failNegotiation_calm n _ s).activeLaw h
  unfold State.pageKept
  dsimp only
  split
  · refine hkept.resolveNegotiation ?_
    rw [State.entry_modifyEntry, if_pos rfl]
    exact hm
  split
  · exact (failNegotiation_calm n _ _).activeLaw hkept
  · exact ⟨hkept.1, hkept.2⟩

/-- A LOST entry that answers its probe comes back below the limit (R110). -/
theorem State.ActiveLaw.pollAnswer {s : State} {a : Addr} (k : Bool) (code : Byte) (c : Condition) (h : s.ActiveLaw)
    (hm : (s.entry a).misses < s.missLimit.toNat) : (s.pollAnswer a k code c).ActiveLaw := by
  have hdue : (s.modifyEntry a fun e => { e with due := false }).ActiveLaw := h.setEntry fun hact => h.2 a hact
  unfold State.pollAnswer
  dsimp only
  refine (pollRest_calm a k code c _).activeLaw ?_
  split
  · unfold State.probeReturn
    refine (raiseAt_calm a _ _).activeLaw ?_
    split
    · rename_i hterms
      refine hdue.setEntry fun _ => ⟨hterms, ?_⟩
      rw [State.entry_modifyEntry, if_pos rfl]
      exact hm
    · exact (enterPending_calm a _).activeLaw hdue
  · exact hdue

/-- The entry that an accepted ACK comes from stands below the miss limit, where the answer may make it ACTIVE. -/
def Exchange.AckedBelow (x : Exchange) (s : State) : Prop := ∀ a, x.frame.address = some a →
  (x.source = .negotiate → (s.entry a).misses < s.missLimit.toNat) ∧
    (x.source = .sweep → (s.entry a).state ≠ .releasing → (s.entry a).misses < s.missLimit.toNat)

theorem State.ActiveLaw.pageEnd {s : State} {a : Addr} {e : ExchangeEnd} (h : s.ActiveLaw)
    (hack : ∀ p, e = .ack p → (s.entry a).misses < s.missLimit.toNat) : (s.pageEnd a e).ActiveLaw := by
  by_cases he : ∀ p, e ≠ .ack p
  · exact (pageEnd_calm a he s).activeLaw h
  push Not at he
  obtain ⟨p, rfl⟩ := he
  unfold State.pageEnd
  split
  · exact h
  rename_i n _
  split
  · exact h
  rename_i hn
  split
  · exact (abandonNegotiation_calm s).activeLaw h
  · exact h.judgePage _ ((not_not.mp hn) ▸ hack p rfl)

theorem State.ActiveLaw.pollEnd {s : State} {a : Addr} {e : ExchangeEnd} (k : Bool) (h : s.ActiveLaw)
    (hack : ∀ p, e = .ack p → (s.entry a).state ≠ .releasing → (s.entry a).misses < s.missLimit.toNat) :
    (s.pollEnd a k e).ActiveLaw := by
  unfold State.pollEnd
  split
  · exact h
  rename_i hrel
  split
  · split
    · exact h.pollAnswer k _ _ (hack _ rfl hrel)
    · exact h
  · split
    · exact h
    · exact h.failedPoll a
  · split
    · exact h
    · exact h.failedPoll a
  all_goals exact h

theorem State.ActiveLaw.requestEnd {s : State} {e : ExchangeEnd} (h : s.ActiveLaw) (hfit : e.Fits) :
    (s.requestEnd e).ActiveLaw := by
  by_cases he : ∀ o, e ≠ .exhausted o
  · exact (requestEnd_calm s he hfit).activeLaw h
  push Not at he
  obtain ⟨o, rfl⟩ := he
  unfold State.requestEnd
  split
  · exact h
  rename_i r hr
  exact (Calm.activeLaw (completeRequest_calm (fun k => k.1 r (List.mem_of_find?_eq_some hr)) (by simp)) h).missFor r

/-- Every source keeps the law at every end (R43 to R47). -/
theorem State.ActiveLaw.handEnd {s : State} {x : Exchange} {e : ExchangeEnd} (h : s.ActiveLaw) (hfit : e.Fits)
    (hack : ∀ p, e = .ack p → x.AckedBelow s) : (s.handEnd x e).ActiveLaw := by
  unfold State.handEnd
  split
  · exact (releaseEnd_calm _ e s).activeLaw h
  · rename_i a hs ha
    exact h.pageEnd fun p hp => (hack p hp a ha).1 hs
  · rename_i a hs ha
    exact h.pollEnd _ fun p hp => (hack p hp a ha).2 hs
  · exact (censusEnd_calm e s).activeLaw h
  · exact h.requestEnd hfit
  all_goals exact h

/-! ## Attempts that fail and answers that are accepted -/

/-- Only an ACK hands over a payload. -/
theorem fits_of_noAck {e : ExchangeEnd} (h : ∀ p, e ≠ .ack p) : e.Fits := fun p hp => absurd hp (h p)

/-- The payload of an accepted answer is no longer than its shape allows (R28, R30). -/
theorem judged_fits {shape : AnswerShape} {toggle : Bool} {wire : List Byte} {tail : Level} {answer : Answer}
    (h : judgeResponse shape toggle wire tail = .ok answer) : answer.toEnd.Fits := by
  rintro p hp
  obtain rfl : answer = .ack p := by cases answer <;> simp_all [Answer.toEnd]
  have hshaped : (Response.ofWire shape wire tail).shaped shape = some (.ack p) := by
    unfold judgeResponse at h
    dsimp only at h
    repeat' split at h
    all_goals simp_all
  have hpayload : (Response.ofWire shape wire tail).payload = p := by
    unfold Response.shaped at hshaped
    repeat' split at hshaped
    all_goals simp_all
  rw [← hpayload]
  unfold Response.ofWire
  dsimp only
  split
  · rename_i hle
    rw [List.length_map, List.length_range]
    exact hle
  · exact Nat.zero_le _

theorem attemptFails_counts {s : State} (x : Exchange) (reason : Failure) : KeepsCounts s (s.attemptFails x reason) :=
  attemptFails_keeps (P := KeepsCounts s) (fun h k => k.trans h.toKeepsCounts) x reason (Calm.refl s).toKeepsCounts
    fun t _ _ k => k.trans (handEnd_counts t (fits_of_noAck (by simp)))

theorem State.ActiveLaw.attemptFails {s : State} (x : Exchange) (reason : Failure) (h : s.ActiveLaw) :
    (s.attemptFails x reason).ActiveLaw :=
  attemptFails_keeps (P := State.ActiveLaw) (fun h k => h.activeLaw k) x reason h
    fun _ _ _ k => k.handEnd (fits_of_noAck (by simp)) (by simp)

theorem answered_eases (line : LineState) (kind : FrameKind) (answer : Answer) (holdOff : Byte) (e : Entry) :
    e.Eases (e.answered line kind answer holdOff) := by
  have hmisses : (if keepsMisses line kind answer e then e.misses else 0) ≤ e.misses := by
    split
    · exact le_rfl
    · exact Nat.zero_le _
  cases answer with
  | ack p => exact ⟨fun h => ⟨h, rfl⟩, hmisses, le_rfl⟩
  | refuse reason => exact ⟨fun h => ⟨h, rfl⟩, hmisses, le_rfl⟩
  | wait => exact .same rfl rfl rfl rfl

theorem noteAnswer_calm (f : Frame) (answer : Answer) (s : State) : Calm s (s.noteAnswer f answer) := by
  unfold State.noteAnswer
  split
  · exact .refl s
  · exact modifyEntry_calm (answered_eases _ _ _ _ _)

theorem acceptAnswer_counts {s : State} {x : Exchange} {answer : Answer} (hfit : answer.toEnd.Fits) :
    KeepsCounts s (s.acceptAnswer x answer) := by
  have hnote := (noteAnswer_calm x.frame answer s).toKeepsCounts
  unfold State.acceptAnswer
  dsimp only
  split
  · exact hnote.trans (attemptFails_counts x _)
  · exact endExchange_keeps (P := KeepsCounts s) (fun h k => k.trans h.toKeepsCounts) hnote fun y _ =>
      (hnote.trans (line_calm _ _ none).toKeepsCounts).trans (handEnd_counts _ hfit)

/-- An accepted answer leaves the states of the roster (R34). -/
theorem noteAnswer_state (f : Frame) (answer : Answer) (s : State) (a : Addr) :
    ((s.noteAnswer f answer).entry a).state = (s.entry a).state := by
  unfold State.noteAnswer
  split
  · rfl
  rw [State.entry_modifyEntry]
  split
  · rename_i hb
    rw [(answered_keeps _ _ _ _ _).1, hb]
  · rfl

/-- An accepted ACK leaves no misses in its entry, unless it is a POLL's of a RELEASING entry (R17, R34). -/
theorem noteAnswer_ackedBelow {s : State} {x : Exchange} (p : List Byte) (hx : s.exchange = some x) (hframe : s.FrameLaw)
    (h : s.ActiveLaw) : x.AckedBelow { s.noteAnswer x.frame (.ack p) with exchange := none } := by
  obtain ⟨hpage, hpoll, -⟩ := hframe x hx
  intro a ha
  have hmisses (hk : x.frame.kind = .page ∨ x.frame.kind = .poll)
      (hkeep : keepsMisses s.lineState x.frame.kind (.ack p) (s.entry a) = false) :
      ((s.noteAnswer x.frame (.ack p)).entry a).misses = 0 := by
    have haddr : x.frame.addressed = some a := addressed_of_kind (hk.imp_right .inl) ha
    rw [noteAnswer_addressed haddr, State.entry_setEntry, if_pos rfl, Entry.answered, hkeep]
    rfl
  have hlimit : 0 < (s.noteAnswer x.frame (.ack p)).missLimit.toNat :=
    (noteAnswer_sameLine x.frame (.ack p) s).missLimit ▸ h.1
  refine ⟨fun hs => ?_, fun hs hrel => ?_⟩
  · exact (hmisses (.inl (hpage hs)) (by rw [hpage hs]; rfl)).trans_lt hlimit
  · refine (hmisses (.inr (hpoll hs)) ?_).trans_lt hlimit
    have hrel' : (s.entry a).state ≠ .releasing := fun k => hrel ((noteAnswer_state x.frame (.ack p) s a).trans k)
    simp [keepsMisses, hrel']

theorem State.ActiveLaw.acceptAnswer {s : State} {x : Exchange} {answer : Answer} (h : s.ActiveLaw)
    (hx : s.exchange = some x) (hframe : s.FrameLaw) (hfit : answer.toEnd.Fits) : (s.acceptAnswer x answer).ActiveLaw := by
  have hnote := (noteAnswer_calm x.frame answer s).activeLaw h
  have hx1 : (s.noteAnswer x.frame answer).exchange = some x := (noteAnswer_sameLine x.frame answer s).exchange.trans hx
  unfold State.acceptAnswer
  dsimp only
  split
  · exact hnote.attemptFails x _
  refine endExchange_keeps (P := State.ActiveLaw) (fun h k => h.activeLaw k) hnote fun y hy => ?_
  obtain rfl : x = y := by simpa [hx1] using hy
  refine State.ActiveLaw.handEnd ((line_calm _ _ none).activeLaw hnote) hfit fun p hp => ?_
  obtain rfl : answer = .ack p := by cases answer <;> simp_all [Answer.toEnd]
  exact noteAnswer_ackedBelow p hx hframe h

end Sys2Proof.Machine
end

section
/-! PROOF. Every step, command by command and event by event: it is calm and keeps the law of the line, or it writes MISSLIM,
asserts RESET#, fails an attempt or accepts an answer. With it the laws of the line (O53) and of the counts (O60). -/

namespace Sys2Proof.Machine

/-! ## The law of the line -/

/-- The line keeps its state and stays free or taken. -/
theorem State.LineLaw.of_line {s t : State} (h : s.LineLaw) (hl : t.lineState = s.lineState)
    (hx : t.exchange.isSome = s.exchange.isSome) : t.LineLaw := by rwa [State.LineLaw, hl, hx]

/-- The line holds an exchange. -/
theorem lineLaw_taken {s : State} (hl : s.lineState = .busy ∨ s.lineState = .draining) (hx : s.exchange.isSome = true) :
    s.LineLaw := iff_of_true hx hl

/-- The line holds no exchange. -/
theorem lineLaw_empty {s : State} (hb : s.lineState ≠ .busy) (hd : s.lineState ≠ .draining) (hx : s.exchange = none) :
    s.LineLaw := iff_of_false (by simp [hx]) (by simp [hb, hd])

/-- A line that is neither BUSY nor DRAINING holds no exchange. -/
theorem State.LineLaw.free {s : State} (h : s.LineLaw) (hb : s.lineState ≠ .busy) (hd : s.lineState ≠ .draining) :
    s.exchange = none := Option.not_isSome_iff_eq_none.mp fun k => (h.mp k).elim hb hd

/-- A free line that changes its state and stays free. -/
theorem State.LineLaw.freeLine {s t : State} (h : s.LineLaw) (hs : s.lineState ≠ .busy ∧ s.lineState ≠ .draining)
    (ht : t.lineState ≠ .busy ∧ t.lineState ≠ .draining) (hx : t.exchange = s.exchange) : t.LineLaw :=
  lineLaw_empty ht.1 ht.2 (hx.trans (h.free hs.1 hs.2))

/-- An exchange that ends leaves the line IDLE or OFF (R48, R161). -/
theorem lineLaw_freed {s : State} {l : LineState} (hl : s.lineState = l.freed) (hx : s.exchange = none) : s.LineLaw :=
  lineLaw_empty (by rw [hl]; cases l <;> decide) (by rw [hl]; cases l <;> decide) hx

theorem endExchange_lineLaw {s : State} (e : ExchangeEnd) (hx : s.exchange.isSome = true) : (s.endExchange e).LineLaw :=
  have ⟨hl, hn⟩ := endExchange_line e s hx
  lineLaw_freed hl hn

theorem State.LineLaw.lineFault {s : State} (kind : FaultKind) (h : s.LineLaw) : (s.lineFault kind).LineLaw := by
  cases hx : s.exchange with
  | none => simpa [State.lineFault, hx] using h
  | some x =>
    obtain ⟨hl, hn, -⟩ := lineFault_line kind s (by rw [hx]; rfl)
    exact lineLaw_empty (by simp [hl]) (by simp [hl]) hn

theorem State.LineLaw.attemptFails {s : State} {x : Exchange} (reason : Failure) (h : s.LineLaw) (hx : s.exchange = some x) :
    (s.attemptFails x reason).LineLaw := by
  unfold State.attemptFails
  dsimp only
  split
  · exact endExchange_lineLaw _ rfl
  split
  · exact h.of_line rfl (by rw [hx]; rfl)
  · exact endExchange_lineLaw _ rfl

theorem State.LineLaw.acceptAnswer {s : State} {x : Exchange} (answer : Answer) (h : s.LineLaw) (hx : s.exchange = some x) :
    (s.acceptAnswer x answer).LineLaw := by
  have hnote := noteAnswer_sameLine x.frame answer s
  have hx1 := hnote.exchange.trans hx
  unfold State.acceptAnswer
  dsimp only
  split
  · exact (h.of_line hnote.lineState (by rw [hnote.exchange])).attemptFails _ hx1
  · exact endExchange_lineLaw _ (by rw [hx1]; rfl)

theorem State.LineLaw.lineCheck {s : State} (x : Exchange) (mda : Level) (h : s.LineLaw) (hx : s.exchange.isSome = true) :
    (s.lineCheck x mda).LineLaw :=
  have ⟨hl, hn⟩ := lineCheck_line x mda s
  h.of_line hl (hn.trans hx.symm)

theorem State.LineLaw.leadIn {s : State} {x : Exchange} (h : s.LineLaw) (hx : s.exchange = some x) : (s.leadIn x).LineLaw :=
  h.lineCheck x .recessive (by rw [hx]; rfl)

theorem openExchange_lineLaw (x : Exchange) (mda : Level) (s : State) : (s.openExchange x mda).LineLaw :=
  have ⟨hl, hn⟩ := lineCheck_line x mda { s with lineState := .busy }
  lineLaw_taken (.inl hl) hn

theorem State.LineLaw.interrupt {s : State} (h : s.LineLaw) : s.interrupt.LineLaw := by
  unfold State.interrupt
  split
  · exact h
  rename_i x hx
  dsimp only
  split
  · exact h.of_line rfl (by rw [hx]; rfl)
  · exact endExchange_lineLaw _ rfl

theorem State.LineLaw.commandTail {s : State} {x : Exchange} (h : s.LineLaw) (hx : s.exchange = some x) :
    (s.commandTail x).LineLaw := by
  unfold State.commandTail
  split
  · exact endExchange_lineLaw _ (by rw [hx]; rfl)
  all_goals exact h.of_line rfl (by rw [hx]; rfl)

theorem closeField_lineLaw {after : State → State} (s : State) (h : ∀ t, SameLine t (after t)) : (s.closeField after).LineLaw :=
  have ⟨hl, hx⟩ := lineFreed_line (after { s with exchange := none })
  lineLaw_freed hl (hx.trans (h _).exchange)

theorem State.LineLaw.judgeField {s : State} {x : Exchange} (u : UnitNumber) (check : Byte) (mda : Level) (h : s.LineLaw)
    (hx : s.exchange = some x) : (s.judgeField x u check mda).LineLaw := by
  unfold State.judgeField
  split
  · exact closeField_lineLaw s fun t => roundEndsRun_sameLine _ _ t
  split
  · exact closeField_lineLaw s failRound_sameLine
  have h0 := assignAddress_sameLine u s
  generalize s.assignAddress u = p at h0
  obtain ⟨t, chosen⟩ := p
  dsimp only at h0 ⊢
  split
  · exact closeField_lineLaw t fun t => roundEndsRun_sameLine _ _ t
  · exact State.LineLaw.lineCheck _ mda (h.of_line h0.lineState (by rw [h0.exchange])) (by rw [h0.exchange, hx]; rfl)

/-- Every grant takes the line, or changes nothing (R49). -/
theorem State.LineLaw.grant {s : State} (mda : Level) (h : s.LineLaw) : (s.grant mda).LineLaw := by
  have hu : s.settleYield.LineLaw := h.of_line (settleYield_sameLine s).lineState (by rw [(settleYield_sameLine s).exchange])
  unfold State.grant
  dsimp only
  generalize s.settleYield = u at hu
  split
  · split
    · exact openExchange_lineLaw _ mda _
    · exact h
  · unfold State.grantCensus
    split
    · exact openExchange_lineLaw _ mda _
    · exact openExchange_lineLaw _ mda _
  · unfold State.grantNegotiate
    dsimp only
    split
    · exact openExchange_lineLaw _ mda _
    · exact openExchange_lineLaw _ mda _
    · exact hu
  · split
    · exact openExchange_lineLaw _ mda _
    · exact h
  · unfold State.grantDispatch
    split
    · exact hu
    · exact openExchange_lineLaw _ mda _
  all_goals exact h

/-- What waits for the line leaves it when LINE DISABLE treats it. -/
theorem disableWaiting_sameLine (s : State) : SameLine s s.disableWaiting := by
  have h1 : SameLine s (if s.onLineOf .census then s else s.endRunLine) := by
    split
    · exact .refl s
    · exact endRunLine_sameLine s
  unfold State.disableWaiting
  dsimp only
  split
  · exact h1
  · exact h1.trans (abandonNegotiation_sameLine _)

/-- A disable drains the exchange on the line, or switches a free line off (R160, R161). -/
theorem State.LineLaw.disableLine {s : State} (h : s.LineLaw) (hd : s.lineState ≠ .draining) : s.disableLine.LineLaw := by
  have hx := (disableWaiting_sameLine s).exchange
  unfold State.disableLine
  dsimp only
  split
  · rename_i hb
    exact State.LineLaw.interrupt (lineLaw_taken (.inr rfl) (hx ▸ h.mpr (.inl hb)))
  · rename_i hb
    exact lineLaw_empty (by simp) (by simp) (hx.trans (h.free hb hd))

theorem State.LineLaw.clearTaken {s : State} (h : s.LineLaw) : s.clearTaken.LineLaw := by
  have h1 : ({ s.dropRun with clearing := true } : State).LineLaw := h
  have h2 : (State.markDiscard { s.dropRun with clearing := true }).LineLaw :=
    h1.of_line rfl (by simp [State.markDiscard])
  have h3 : ({ s.dropRun with clearing := true } : State).finishClear.LineLaw :=
    have ⟨hl, hx⟩ := finishClear_line { s.dropRun with clearing := true }
    h1.of_line hl (by rw [hx])
  unfold State.clearTaken
  dsimp only
  split
  · exact h2.interrupt
  · exact h2.interrupt
  · exact h1
  all_goals exact h3

theorem State.LineLaw.abortRequest {s : State} (r : Request) (h : s.LineLaw) : (s.abortRequest r).LineLaw := by
  have hg := (giveVerdict_sameWork r.ticket .aborted (s.markAborted r.ticket)).toSameLine
  have h1 : (s.markAborted r.ticket).LineLaw := h
  unfold State.abortRequest
  split
  · exact h1.of_line hg.lineState (by rw [hg.exchange])
  · exact h1.of_line hg.lineState (by rw [hg.exchange])
  split
  · exact h
  · exact h1.interrupt

/-! ## Commands that leave the line alone -/

theorem stopRun_sameLine (s : State) : SameLine s s.stopRun := by
  unfold State.stopRun
  split
  · exact endRun_sameLine _ _ s
  · repeat' constructor
  all_goals exact .refl s

theorem submitRequest_line (s : State) :
    s.submitRequest.lineState = s.lineState ∧ s.submitRequest.exchange = s.exchange := by
  unfold State.submitRequest
  split <;> exact ⟨rfl, rfl⟩

theorem attentionPosted_sameLine (a : Addr) (e : EventRecord) (s : State) : SameLine s (s.attentionPosted a e) := by
  unfold State.attentionPosted
  split
  · exact modifyEntry_sameLine a _ s
  · exact .refl s

theorem postFromStores_sameLine (l : List Addr) (s : State) : SameLine s (s.postFromStores l) := by
  induction l with
  | nil => exact .refl s
  | cons a rest ih =>
    unfold State.postFromStores
    split
    · exact ih
    · exact SameLine.trans (SameWork.toSameLine ((setStore_sameWork a _ s).trans (post_sameWork _ _)))
        (attentionPosted_sameLine a _ _)

theorem postFirstWaiting_sameLine (s : State) : SameLine s s.postFirstWaiting := by
  unfold State.postFirstWaiting
  split
  · exact ((dropRequest_sameWork _ _).trans (post_sameWork _ _)).toSameLine
  split
  · repeat' constructor
  · exact postFromStores_sameLine _ _

theorem commitOffer_sameLine (s : State) : SameLine s s.commitOffer := by
  unfold State.commitOffer
  split <;> repeat' constructor

theorem writeBinding_line (p : Option Binding → Bool) (row : Option Binding) (s : State) :
    (s.writeBinding p row).lineState = s.lineState ∧ (s.writeBinding p row).exchange = s.exchange := by
  rcases writeBinding_cases p row s with k | ⟨i, k⟩ <;> rw [k] <;> exact ⟨rfl, rfl⟩

/-! ## What a step may do -/

/-- Calm, and the law of the line is kept. -/
structure Still (s t : State) : Prop extends Calm s t where
  line : s.LineLaw → t.LineLaw

theorem Still.refl (s : State) : Still s s := ⟨.refl s, id⟩

theorem Still.trans {s t u : State} (h : Still s t) (k : Still t u) : Still s u := ⟨h.toCalm.trans k.toCalm, k.line ∘ h.line⟩

/-- A calm change that leaves the line alone. -/
theorem Calm.still {s t : State} (h : Calm s t) (hl : t.lineState = s.lineState) (hx : t.exchange = s.exchange) : Still s t :=
  ⟨h, fun k => k.of_line hl (by rw [hx])⟩

theorem Calm.sameLine {s t : State} (h : Calm s t) (k : SameLine s t) : Still s t := h.still k.lineState k.exchange

/-- One change of the state: still, a write of MISSLIM, a reset, a failed attempt or an accepted answer. -/
inductive Change (s : State) : State → Prop
  | still {t : State} (h : Still s t) : Change s t
  | limit (v : Byte) : Change s (s.writeMissLimit v)
  | reset : Change s s.hardwareReset
  | fails (x : Exchange) (reason : Failure) (hx : s.exchange = some x) : Change s (s.attemptFails x reason)
  | accepts (x : Exchange) (answer : Answer) (hx : s.exchange = some x) (hfit : answer.toEnd.Fits) :
    Change s (s.acceptAnswer x answer)

theorem Change.counts {s t : State} (h : Change s t) : KeepsCounts s t := by
  cases h with
  | still h => exact h.toKeepsCounts
  | limit v => exact writeMissLimit_counts v s
  | reset => exact hardwareReset_counts s
  | fails x reason hx => exact attemptFails_counts x reason
  | accepts x answer hx hfit => exact acceptAnswer_counts hfit

theorem Change.activeLaw {s t : State} (h : Change s t) (hframe : s.FrameLaw) (hs : s.ActiveLaw) : t.ActiveLaw := by
  cases h with
  | still h => exact h.activeLaw hs
  | limit v => exact writeMissLimit_activeLaw v hs
  | reset => exact reset_activeLaw
  | fails x reason hx => exact hs.attemptFails x reason
  | accepts x answer hx hfit => exact hs.acceptAnswer hx hframe hfit

theorem Change.lineLaw {s t : State} (h : Change s t) (hs : s.LineLaw) : t.LineLaw := by
  cases h with
  | still h => exact h.line hs
  | limit v => exact hs
  | reset => exact reset_lineLaws.1
  | fails x reason hx => exact hs.attemptFails reason hx
  | accepts x answer hx hfit => exact hs.acceptAnswer answer hx

/-! ## Commands -/

/-- What an outcome leaves is one change. -/
def Changes (s : State) (o : Host.Outcome State Fault Refusal) : Prop := ∀ t, o = .next t → Change s t

theorem Change.next {s t : State} (h : Change s t) : Changes s (.next t) := fun _ ht => Host.Outcome.next.inj ht ▸ h

theorem Still.next {s t : State} (h : Still s t) : Changes s (.next t) := (Change.still h).next

section
variable {s : State}

theorem answer_still (r : ResultCode) (v : Byte) (s : State) : Still s (s.answer r v) :=
  Calm.still (.of_eq ⟨rfl, rfl, rfl, rfl, rfl, rfl, rfl, rfl⟩ rfl rfl rfl rfl rfl rfl rfl) rfl rfl

/-- What one change does, one change does while RESET# is released. -/
theorem Change.unlessReset {t : State} (h : Change s t) : Change s (s.unlessReset t) := by
  unfold State.unlessReset
  split
  · exact .still (.refl s)
  · exact h

theorem Still.unlessReset {t : State} (h : Still s t) : Changes s (.next (s.unlessReset t)) := (Change.still h).unlessReset.next

/-- A command is still if its effects are, where they are taken. -/
theorem command_still {refusal : Option ResultCode} {effect : State} {argument : Byte} (h : refusal = none → Still s effect) :
    Changes s (.next (s.command refusal effect argument)) := by
  refine Still.unlessReset ?_
  split
  · exact answer_still _ _ s
  split
  · exact answer_still _ _ s
  · exact (h rfl).trans (answer_still _ _ _)

theorem refused_still (r : ResultCode) : Changes s (.next (s.command (some r) s)) := command_still nofun

theorem execLineEnable_changes : Changes s (execLineEnable s) := by
  refine command_still fun hr => ⟨line_calm s .idle s.exchange, fun h => h.freeLine ?_ (by simp) rfl⟩
  have hoff : s.lineState = .off := by simpa using firstRefusal_eq_none hr _ (List.mem_singleton.mpr rfl)
  simp [hoff]

theorem execLineRecover_changes : Changes s (execLineRecover s) := by
  refine command_still fun hr => ⟨line_calm s .recovering s.exchange, fun h => h.freeLine ?_ (by simp) rfl⟩
  have hfault : s.lineState = .fault := by simpa using firstRefusal_eq_none hr _ (List.mem_singleton.mpr rfl)
  simp [hfault]

theorem execLineDisable_changes : Changes s (execLineDisable s) :=
  command_still fun hr => ⟨disableLine_calm s, fun h => h.disableLine fun hd => by
    simpa [hd] using firstRefusal_eq_none hr _ (List.mem_singleton.mpr rfl)⟩

theorem execCensusStart_changes : Changes s (execCensusStart s) :=
  command_still fun _ => (startRun_calm _ s).sameLine (startRun_sameLine _ s)

theorem execCensusStop_changes : Changes s (execCensusStop s) :=
  command_still fun _ => (stopRun_calm s).sameLine (stopRun_sameLine s)

theorem execSubmit_changes : Changes s (execSubmit s) :=
  command_still fun _ => (submitRequest_calm s).still (submitRequest_line s).1 (submitRequest_line s).2

theorem execAbort_changes : Changes s (execAbort s) := by
  unfold execAbort
  cases s.request? s.args[0] with
  | none => exact refused_still _
  | some r => exact command_still fun _ => ⟨abortRequest_calm r s, fun h => h.abortRequest r⟩

theorem execRetire_changes : Changes s (execRetire s) :=
  command_still fun _ => (retireHead_calm s).still
    (postFirstWaiting_sameLine { s with ring := s.ring.tail }).lineState
    (postFirstWaiting_sameLine { s with ring := s.ring.tail }).exchange

theorem execRelease_changes : Changes s (execRelease s) := by
  unfold execRelease
  cases s.argAddress with
  | none => exact refused_still _
  | some a => exact command_still fun _ => (releaseEntry_calm a s).sameLine (releaseEntry_sameLine a s)

theorem execRenegotiate_changes : Changes s (execRenegotiate s) := by
  unfold execRenegotiate
  cases s.argAddress with
  | none => exact refused_still _
  | some a => exact command_still fun _ => (enterPending_calm a s).sameLine (enterPending_sameLine a s)

theorem writeBinding_still (p : Option Binding → Bool) (row : Option Binding) : Still s (s.writeBinding p row) :=
  have ⟨hl, hx⟩ := writeBinding_line p row s
  (writeBinding_calm p row s).still hl hx

theorem execBind_changes : Changes s (execBind s) := by
  unfold execBind
  cases s.argAddress with
  | none => exact refused_still _
  | some a =>
    refine command_still fun _ => ?_
    unfold State.writeBind
    split
    · exact .refl s
    · exact writeBinding_still _ _

theorem execUnbind_changes : Changes s (execUnbind s) := by
  unfold execUnbind
  cases s.argAddress with
  | none => exact refused_still _
  | some a => exact command_still fun _ => writeBinding_still _ _

theorem execCommitOffer_changes : Changes s (execCommitOffer s) :=
  command_still fun _ => (commitOffer_calm s).sameLine (commitOffer_sameLine s)

theorem execClear_changes : Changes s (execClear s) :=
  command_still fun _ => ⟨clearTaken_calm s, State.LineLaw.clearTaken⟩

theorem writeCommand_changes (code : Byte) : Changes s (s.writeCommand code) := by
  unfold State.writeCommand
  split
  · exact execLineEnable_changes
  · exact execLineDisable_changes
  · exact execLineRecover_changes
  · exact execCensusStart_changes
  · exact execCensusStop_changes
  · exact execSubmit_changes
  · exact execAbort_changes
  · exact execRetire_changes
  · exact execRelease_changes
  · exact execRenegotiate_changes
  · exact execBind_changes
  · exact execUnbind_changes
  · exact execCommitOffer_changes
  · exact execClear_changes
  · exact (answer_still _ _ s).unlessReset

/-! ## Register writes -/

/-! A capture sets the pointer to 0, below every end (R180). -/

theorem execTabselWrite_changes (v : Byte) : Changes s (execTabselWrite v s) :=
  Still.unlessReset (Calm.still (.of_registers id (fun _ => Nat.zero_le _) rfl rfl rfl rfl rfl rfl rfl rfl) rfl rfl)

theorem execTabidxWrite_changes (v : Byte) : Changes s (execTabidxWrite v s) :=
  Still.unlessReset (Calm.still (.of_registers id (fun _ => Nat.zero_le _) rfl rfl rfl rfl rfl rfl rfl rfl) rfl rfl)

theorem advancePointer_line (s : State) :
    s.advancePointer.lineState = s.lineState ∧ s.advancePointer.exchange = s.exchange := by
  unfold State.advancePointer
  split <;> exact ⟨rfl, rfl⟩

theorem writeTableByte_line (v : Byte) (s : State) :
    (s.writeTableByte v).lineState = s.lineState ∧ (s.writeTableByte v).exchange = s.exchange := by
  unfold State.writeTableByte
  split
  · obtain ⟨hl, hx⟩ := advancePointer_line (s.storeByte v)
    rw [hl, hx]
    unfold State.storeByte
    split <;> exact ⟨rfl, rfl⟩
  · exact ⟨rfl, rfl⟩

theorem execTabdataRead_changes : Changes s (execTabdataRead s) := by
  have hread (t : State) (v : Byte) : Still t { t with readData := v } :=
    Calm.still (.of_eq ⟨rfl, rfl, rfl, rfl, rfl, rfl, rfl, rfl⟩ rfl rfl rfl rfl rfl rfl rfl) rfl rfl
  refine Still.next ?_
  split
  · exact hread s 0
  · obtain ⟨hl, hx⟩ := advancePointer_line s
    exact ((advancePointer_calm s).still hl hx).trans (hread _ _)

theorem writeTableByte_still (v : Byte) : Still s (s.writeTableByte v) :=
  have ⟨hl, hx⟩ := writeTableByte_line v s
  (writeTableByte_calm v s).still hl hx

theorem execCauseWrite_changes (v : Byte) : Changes s (execCauseWrite v s) :=
  Still.unlessReset (Calm.still (.of_eq ⟨rfl, rfl, rfl, rfl, rfl, rfl, rfl, rfl⟩ rfl rfl rfl rfl rfl rfl rfl) rfl rfl)

theorem execEnableWrite_changes (v : Byte) : Changes s (execEnableWrite v s) :=
  Still.unlessReset (Calm.still (.of_eq ⟨rfl, rfl, rfl, rfl, rfl, rfl, rfl, rfl⟩ rfl rfl rfl rfl rfl rfl rfl) rfl rfl)

theorem execSweepivlWrite_changes (v : Byte) : Changes s (execSweepivlWrite v s) :=
  Still.unlessReset ((writeSweepInterval_calm v s).still rfl rfl)

theorem execMisslimWrite_changes (v : Byte) : Changes s (execMisslimWrite v s) := (Change.limit v).unlessReset.next

theorem execAutocensusWrite_changes (v : Byte) : Changes s (execAutocensusWrite v s) :=
  Still.unlessReset (Calm.still (.of_eq ⟨rfl, rfl, rfl, rfl, rfl, rfl, rfl, rfl⟩ rfl rfl rfl rfl rfl rfl rfl) rfl rfl)

theorem writePlain_still (r : Register) (v : Byte) : Still s (s.writePlain r v) :=
  (writePlain_calm r v s).still (by cases r <;> rfl) (by cases r <;> rfl)

theorem writeRegister_changes (r : Register) (v : Byte) : Changes s (s.writeRegister r v) := by
  unfold State.writeRegister
  split
  · exact writeCommand_changes v
  · exact execTabselWrite_changes v
  · exact execTabidxWrite_changes v
  · exact (writeTableByte_still v).unlessReset
  · exact execCauseWrite_changes v
  · exact execEnableWrite_changes v
  · exact execSweepivlWrite_changes v
  · exact execMisslimWrite_changes v
  · exact execAutocensusWrite_changes v
  all_goals exact (writePlain_still _ v).unlessReset

/-! ## Events -/

theorem execAutoCensusExpiry_changes : Changes s (execAutoCensusExpiry s) := by
  refine Still.unlessReset ?_
  split
  · exact (startRun_calm _ s).sameLine (startRun_sameLine _ s)
  · exact .refl s

theorem execHoldOffEnd_changes (n : Nat) : Changes s (execHoldOffEnd n s) := by
  refine Still.unlessReset ?_
  split
  · exact .refl s
  · exact Calm.sameLine (modifyEntry_calm (.same rfl rfl rfl rfl)) (modifyEntry_sameLine _ _ s)

theorem execSweepTick_changes : Changes s (execSweepTick s) := by
  refine Still.unlessReset ?_
  split
  · exact (tick_calm s).still rfl rfl
  · exact .refl s

theorem execLineGrant_changes (mda : Level) : Changes s (execLineGrant mda s) := by
  refine Still.unlessReset ?_
  split
  · exact ⟨grant_calm mda s, fun h => h.grant mda⟩
  · exact .refl s

theorem execClearDismiss_changes (mda : Level) : Changes s (execClearDismiss mda s) := by
  refine Still.unlessReset ?_
  split
  · exact ⟨openExchange_calm _ mda s, fun _ => openExchange_lineLaw _ mda s⟩
  · exact .refl s

/-- An event of the exchange on the line is one change if what it does to the exchange it finds is. -/
theorem Change.onExchange {p : Exchange → Bool} {act : Exchange → State} (h : ∀ x, s.exchange = some x → Change s (act x)) :
    Changes s (.next (s.unlessReset (match s.exchangeIn p with | some x => act x | none => s))) := by
  refine (Change.unlessReset ?_).next
  cases hx : s.exchangeIn p with
  | none => exact .still (.refl s)
  | some x => exact h x (exchangeIn_some hx).1

theorem lineFault_still (kind : FaultKind) : Still s (s.lineFault kind) := ⟨lineFault_calm kind s, fun h => h.lineFault kind⟩

/-- A recovery check that ends leaves the line free (R168). -/
theorem recovery_still (l : LineState) (kind : FaultKind) (c : Cause) (hr : s.lineState = .recovering)
    (hl : l ≠ .busy ∧ l ≠ .draining) : Still s (State.setCause c { s with lineState := l, faultKind := kind }) :=
  ⟨.of_eq ⟨rfl, rfl, rfl, rfl, rfl, rfl, rfl, rfl⟩ rfl rfl rfl rfl rfl rfl rfl, fun h => h.freeLine (by simp [hr]) hl rfl⟩

theorem execClockFault_changes : Changes s (execClockFault s) := by
  refine Still.unlessReset ?_
  split
  · rename_i hr
    exact recovery_still .fault .clock .fault hr (by simp)
  split
  · exact lineFault_still _
  · exact .refl s

theorem execResponseFrame_changes (wire : List Byte) (tail : Level) : Changes s (execResponseFrame wire tail s) := by
  refine (Change.unlessReset ?_).next
  split
  · exact .still (.refl s)
  rename_i x hx
  obtain ⟨hx, -⟩ := exchangeIn_some hx
  split
  · rename_i hj
    exact .accepts x _ hx (judged_fits hj)
  · exact .fails x _ hx

theorem execFieldEnd_changes (u : UnitNumber) (check : Byte) (mda : Level) : Changes s (execFieldEnd u check mda s) := by
  refine Still.unlessReset ?_
  split
  · exact .refl s
  rename_i x hx
  obtain ⟨hx, -⟩ := exchangeIn_some hx
  split
  · exact ⟨endExchange_calm s (.inr (.inl rfl)), fun _ => endExchange_lineLaw _ (by rw [hx]; rfl)⟩
  · exact ⟨judgeField_calm x u check mda s, fun h => h.judgeField u check mda hx⟩

theorem execRecoverySuccess_changes : Changes s (execRecoverySuccess s) := by
  refine Still.unlessReset ?_
  split
  · rename_i hr
    exact recovery_still .idle s.faultKind .recovered hr (by simp)
  · exact .refl s

theorem execRecoveryTimeout_changes : Changes s (execRecoveryTimeout s) := by
  refine Still.unlessReset ?_
  split
  · rename_i hr
    exact recovery_still .fault .stuck .fault hr (by simp)
  · exact .refl s

/-- What a command or an event leaves is one change. -/
theorem exec_changes (c : Instr) : Changes s (exec c s) :=
  match c with
  | .lineEnable => execLineEnable_changes
  | .lineDisable => execLineDisable_changes
  | .lineRecover => execLineRecover_changes
  | .censusStart => execCensusStart_changes
  | .censusStop => execCensusStop_changes
  | .submit => execSubmit_changes
  | .abort => execAbort_changes
  | .retire => execRetire_changes
  | .release => execRelease_changes
  | .renegotiate => execRenegotiate_changes
  | .bind => execBind_changes
  | .unbind => execUnbind_changes
  | .commitOffer => execCommitOffer_changes
  | .clear => execClear_changes
  | .badCommand code => writeCommand_changes code
  | .tabselWrite v => execTabselWrite_changes v
  | .tabidxWrite v => execTabidxWrite_changes v
  | .tabdataRead => execTabdataRead_changes
  | .tabdataWrite v => (writeTableByte_still v).unlessReset
  | .causeWrite v => execCauseWrite_changes v
  | .enableWrite v => execEnableWrite_changes v
  | .sweepivlWrite v => execSweepivlWrite_changes v
  | .misslimWrite v => execMisslimWrite_changes v
  | .autocensusWrite v => execAutocensusWrite_changes v
  | .registerWrite address v => writeRegister_changes (registerAt address) v
  | .hardwareReset => Change.reset.next
  | .sweepTick => execSweepTick_changes
  | .autoCensusExpiry => execAutoCensusExpiry_changes
  | .holdOffEnd n => execHoldOffEnd_changes n
  | .lineGrant mda => execLineGrant_changes mda
  | .clearDismiss mda => execClearDismiss_changes mda
  | .lineCheckCleared => Change.onExchange fun x hx => .still ⟨leadIn_calm x s, fun h => h.leadIn hx⟩
  | .clearWaitExpiry => Change.onExchange (act := fun _ => s.lineFault .stuck) fun _ _ => .still (lineFault_still .stuck)
  | .contention => Change.onExchange fun x hx => .fails x .contention hx
  | .clockFault => execClockFault_changes
  | .commandSent => Change.onExchange fun x hx => .still ⟨commandTail_calm x s, fun h => h.commandTail hx⟩
  | .replyWindowExpiry => Change.onExchange fun x hx => .fails x .noAnswer hx
  | .responseFrame wire tail => execResponseFrame_changes wire tail
  | .retryGapEnd mda => Change.onExchange fun x hx =>
    .still ⟨lineCheck_calm x mda s, fun h => h.lineCheck x mda (by rw [hx]; rfl)⟩
  | .fieldEnd u check mda => execFieldEnd_changes u check mda
  | .recoverySuccess => execRecoverySuccess_changes
  | .recoveryTimeout => execRecoveryTimeout_changes
  | .resetRelease =>
    Still.next (Calm.still (.of_eq ⟨rfl, rfl, rfl, rfl, rfl, rfl, rfl, rfl⟩ rfl rfl rfl rfl rfl rfl rfl) rfl rfl)

end

/-- Half a millisecond is still (R3, R71, R98). -/
theorem elapse_still (s : State) : Still s s.elapse := by
  have htimer (t : State) (n : Nat) (m : Option Nat) : Still t { t with tickTimer := n, autoTimer := m } :=
    Calm.still (.of_eq ⟨rfl, rfl, rfl, rfl, rfl, rfl, rfl, rfl⟩ rfl rfl rfl rfl rfl rfl rfl) rfl rfl
  have hhold : Still s s.elapseHoldOffs :=
    Calm.sameLine (mapEntries_calm fun _ _ => .same rfl rfl rfl rfl) (mapEntries_sameLine _ s)
  have htick (t : State) : Still t t.elapseTick := by
    unfold State.elapseTick
    split
    · split
      · exact htimer t _ t.autoTimer
      · exact (tick_calm t).still rfl rfl
    · exact .refl t
  have hauto (t : State) : Still t t.elapseAuto := by
    unfold State.elapseAuto
    split
    · exact .refl t
    split
    · split
      · exact htimer t t.tickTimer _
      · exact (startRun_calm false t).sameLine (startRun_sameLine false t)
    · exact .refl t
  unfold State.elapse State.unlessReset
  split
  · exact .refl s
  · exact (hhold.trans (htick _)).trans (hauto _)

/-- A step is one change of the state with the rest of the queue, or of the state where the queue is empty. -/
theorem step_change {s t : State} (h : step s = .next t) : ∃ pending, Change { s with pending := pending } t := by
  unfold step at h
  split at h
  · exact ⟨s.pending, Host.Outcome.next.inj h ▸ .still (elapse_still s)⟩
  · rename_i c rest _
    exact ⟨rest, exec_changes c t h⟩

/-- Settles O53: whatever a step does to an exchange, it ends it with the line freed or keeps it on the line. -/
theorem lineLawKept : Obligations.LineLawKept := fun _ _ hs h =>
  have ⟨_, hc⟩ := step_change h
  hc.lineLaw hs

/-- Settles O60: the counts are kept by every change; an ACTIVE entry comes nearer to the miss limit only by a miss, which
makes it LOST at the limit, by a resolution or a probe's return, which follow an answer, and by a write of the limit. -/
theorem activeRangeAndCommitLawsKept : Obligations.ActiveRangeAndCommitLawsKept := by
  refine ⟨fun s t _ hframe hs h => ?_, fun s t hr hconfig h => ?_, fun s t hs h => ?_⟩
  · obtain ⟨_, hc⟩ := step_change h
    exact hc.activeLaw hframe hs
  · obtain ⟨_, hc⟩ := step_change h
    exact hc.counts.laws hr hconfig
  · obtain ⟨_, hc⟩ := step_change h
    exact hc.counts.commit hs

end Sys2Proof.Machine
end

section
/-! PROOF. Attempts on the line and what stays of the arbiter: retry gaps and LINE CHECKs (O41), the pass-over count (O44), and
the answers of nodes (O51). -/

namespace Sys2Proof.Machine

/-! ## Retry gaps and LINE CHECKs -/

/-- An attempt of an addressed frame carries its entry's toggle, an all-call one 0 (R34, R35). -/
theorem toggleFor_eq {f : Frame} (s : State) (ha : ∀ a, f.address = some a → f.addressed = some a)
    (hn : f.address = none → f.toggle = false) :
    s.toggleFor f = match f.address with | some a => (s.entry a).toggle | none => false := by
  unfold State.toggleFor
  cases haddr : f.address with
  | some a => rw [ha a haddr]
  | none =>
    have hnone : f.addressed = none := Option.eq_none_iff_forall_ne_some.mpr fun a h => by
      simp [addressed_address h] at haddr
    rw [hnone]
    exact hn haddr

/-- A lead-in, and the attempt that it counts for the ON-LINE request (R25, R34, R36, R37, R122). -/
theorem leadIn_eq (x : Exchange) (s : State) : s.leadIn x = { s with
    lineRateInForce := s.lineRate
    queue := if x.source = .dispatch
      then updateFirst Request.isOnLine (fun q => { q with attempts := min 15 (q.attempts + 1) }) s.queue else s.queue
    exchange := some (s.exchangeAtLeadIn x) } := by
  unfold State.leadIn
  dsimp only
  split <;> rfl

/-- An event that acts on the exchange on the line in the phase it has. -/
theorem exchangeIn_self {s : State} {x : Exchange} {p : Exchange → Bool} (hx : s.exchange = some x) (hp : p x = true) :
    s.exchangeIn p = some x := by
  rw [State.exchangeIn, hx]
  exact if_pos hp

theorem exec_retryGapEnd {s : State} {x : Exchange} (mda : Level) (hr : s.resetAsserted = false) (hx : s.exchange = some x)
    (hp : x.phase = .retryGap) : exec (.retryGapEnd mda) s = .next (s.lineCheck x mda) := by
  show Host.Outcome.next (s.unlessReset _) = _
  rw [unlessReset_released hr, exchangeIn_self hx (by simp [hp])]

theorem exec_lineCheckCleared {s : State} {x : Exchange} (hr : s.resetAsserted = false) (hx : s.exchange = some x)
    (hp : x.phase = .lineCheck) : exec .lineCheckCleared s = .next (s.leadIn x) := by
  show Host.Outcome.next (s.unlessReset _) = _
  rw [unlessReset_released hr, exchangeIn_self hx (by simp [hp])]

/-- Settles O41: a failed attempt with attempts left, and the two LINE CHECKs that lead to the next lead-in. -/
theorem retryGapAndLineCheck : Obligations.RetryGapAndLineCheck := by
  intro s x hr _ hx hi haddressed hallcall toggle attempt
  have hlead : s.leadIn x = attempt := by
    rw [leadIn_eq, State.exchangeAtLeadIn, toggleFor_eq s haddressed hallcall]
    rfl
  refine ⟨fun hu c reason hf => ?_, fun hp => ⟨?_, ?_⟩, fun hp => ?_⟩
  · rw [exec_failsBy hr hx hf, attemptFails_gap reason hi hu]
  · rw [exec_retryGapEnd .recessive hr hx hp, ← hlead]
    rfl
  · rw [exec_retryGapEnd .dominant hr hx hp]
    rfl
  · rw [exec_lineCheckCleared hr hx hp, hlead]

/-! ## The pass-over count -/

theorem lineFreed_passOver (s : State) : s.lineFreed.passOver = s.passOver := by
  unfold State.lineFreed
  split
  · exact (settleYield_sameLine _).passOver
  all_goals rfl

/-- The exchange on the line, if there is one, is not discarded and not the CLEAR's DISMISS (R170, R171). -/
def State.NoClearOnLine (s : State) : Prop := ∀ x, s.exchange = some x → x.discard = false ∧ x.source ≠ .clearDismiss

theorem endExchange_passOver {s : State} (e : ExchangeEnd) (h : s.NoClearOnLine) :
    (s.endExchange e).passOver = s.passOver := by
  cases hx : s.exchange with
  | none => simp [State.endExchange, hx]
  | some x =>
    obtain ⟨hd, hs⟩ := h x hx
    rw [endExchange_handed e hx hd hs, lineFreed_passOver]
    exact (handEnd_sameLine x e _).passOver

theorem interrupt_passOver {s : State} (h : s.NoClearOnLine) : s.interrupt.passOver = s.passOver := by
  unfold State.interrupt
  split
  · rfl
  rename_i x hx
  dsimp only
  split
  · rfl
  · refine endExchange_passOver (s := { s with exchange := some { x with interruptTaken := true } }) _ fun y hy => ?_
    obtain rfl := Option.some.inj hy
    exact h x hx

theorem disableLine_passOver {s : State} (h : s.NoClearOnLine) : s.disableLine.passOver = s.passOver := by
  have hwait := disableWaiting_sameLine s
  unfold State.disableLine
  dsimp only
  split
  · refine (interrupt_passOver fun x hx => h x ?_).trans hwait.passOver
    exact hwait.exchange ▸ hx
  · exact hwait.passOver

theorem lineFault_passOver {s : State} (kind : FaultKind) (h : s.NoClearOnLine) :
    (s.lineFault kind).passOver = s.passOver := by
  cases hx : s.exchange with
  | none => simp [State.lineFault, hx]
  | some x =>
    obtain ⟨hd, hs⟩ := h x hx
    have hne : (x.source == .clearDismiss) = false := by simpa using hs
    simp only [State.lineFault, hx, hd, hne, Bool.false_eq_true, if_false, Bool.or_false]
    exact (loseLine_sameLine _).passOver.trans (handEnd_sameLine x .faulted _).passOver

/-- A command keeps what its effects and its answer keep. -/
theorem command_passOver {s effect : State} {refusal : Option ResultCode} {v : Byte} (h : effect.passOver = s.passOver) :
    (s.command refusal effect v).passOver = s.passOver := by
  unfold State.command State.unlessReset
  split
  · rfl
  split
  · rfl
  split
  · rfl
  · exact h

theorem clockFault_passOver {s : State} (h : s.NoClearOnLine) :
    ∃ t, exec .clockFault s = .next t ∧ t.passOver = s.passOver := by
  refine ⟨_, rfl, ?_⟩
  unfold State.unlessReset
  split
  · rfl
  split
  · rfl
  split
  · exact lineFault_passOver .clock h
  · rfl

theorem clearWaitExpiry_passOver {s : State} (h : s.NoClearOnLine) :
    ∃ t, exec .clearWaitExpiry s = .next t ∧ t.passOver = s.passOver := by
  refine ⟨_, rfl, ?_⟩
  unfold State.unlessReset
  split
  · rfl
  split
  · exact lineFault_passOver .stuck h
  · rfl

/-- Settles O44: none of these events is a grant, and no register holds the count. -/
theorem passOverKept : Obligations.PassOverKept := by
  refine ⟨rfl, fun _ => rfl, fun s _ h c hc => ?_, fun s count address => ?_⟩
  · have hline : s.NoClearOnLine := h
    simp only [List.mem_cons, List.not_mem_nil, or_false] at hc
    rcases hc with rfl | rfl | rfl | rfl
    · exact ⟨_, rfl, command_passOver (disableLine_passOver hline)⟩
    · exact ⟨_, rfl, command_passOver rfl⟩
    · exact clearWaitExpiry_passOver hline
    · exact clockFault_passOver hline
  · unfold State.readRegister
    cases registerAt address <;> rfl

/-! ## The answers of nodes -/

/-- Settles O51: the response frame of a suitable answer reads as that answer. -/
theorem nodeAnswersAreAccepted : Obligations.NodeAnswersAreAccepted := fun _ toggle _ hs hz => judgeResponse_wire toggle hs hz

end Sys2Proof.Machine
end

section
/-! PROOF. The arbiter's grants in the base order (O40), and what a grant to NEGOTIATE (O32), to SWEEP (O35) and to DISPATCH
(O18) puts on the line. -/

namespace Sys2Proof.Machine

/-! ## What the arbiter settles before its choice -/

/-- The yield stands where another source is ready (R55). -/
theorem settleYield_of_ready {s : State} (h : s.otherReady = true) : s.settleYield = s := by
  unfold State.settleYield
  rw [if_neg (by simp [h])]

theorem otherReady_iff {s : State} : s.otherReady = true ↔
    s.releaseReady = true ∨ s.negotiateReady = true ∨ s.sweepReady = true ∨ s.dispatchReady = true := by
  simp [State.otherReady, or_assoc]

/-- No readiness but CENSUS's reads the yield (R18, R78, R100, R119). -/
theorem settleYield_ready (s : State) : s.settleYield.releaseReady = s.releaseReady ∧
    s.settleYield.negotiateReady = s.negotiateReady ∧ s.settleYield.sweepReady = s.sweepReady ∧
    s.settleYield.dispatchReady = s.dispatchReady ∧ s.settleYield.passOver = s.passOver := by
  unfold State.settleYield
  split
  · refine ⟨rfl, rfl, rfl, ?_, rfl⟩
    simp only [State.dispatchReady, startFirst_congr (s := s) (t := { s with yield := false }) rfl rfl rfl]
  · exact ⟨rfl, rfl, rfl, rfl, rfl⟩

/-- CENSUS is ready once the yield is settled (R55). -/
theorem settleYield_census {s : State} (hl : s.lineState = .idle) (hr : s.releaseReady = false) :
    s.settleYield.censusReady = true ↔ (s.censusState = .running ∧ s.round = none) ∧
      (s.yield = false ∨ ¬(s.negotiateReady = true ∨ s.sweepReady = true ∨ s.dispatchReady = true)) := by
  have hother : s.otherReady = true ↔ s.negotiateReady = true ∨ s.sweepReady = true ∨ s.dispatchReady = true := by
    rw [otherReady_iff, hr]
    simp
  rw [← hother]
  unfold State.settleYield State.censusReady
  cases hy : s.yield <;> cases ho : s.otherReady <;> simp [hl, hy]

/-! ## The choice (R50) -/

/-- A ready DISPATCH that has been passed over fewer than eight times waits for its place. -/
theorem notOverdue {s : State} (h : s.dispatchReady = true → s.passOver < 8) :
    (s.dispatchReady && decide (Config.passOverLimit ≤ s.passOver)) = false := by
  rw [← Bool.not_eq_true, Bool.and_eq_true, decide_eq_true_eq]
  exact fun ⟨hd, hle⟩ => Nat.not_le.mpr (h hd) hle

section
variable {s : State} (mda : Level) (hr : s.settleYield.releaseReady = false) (hc : s.settleYield.censusReady = false)
include hr hc

/-- DISPATCH is granted at once when it has been passed over eight times. -/
theorem grant_dispatch_overdue (hd : s.settleYield.dispatchReady = true) (hp : 8 ≤ s.settleYield.passOver) :
    s.grant mda = s.settleYield.grantDispatch mda := by
  have hg : s.settleYield.grantChoice = some .dispatch := by
    simp [State.grantChoice, hr, hc, hd, Config.passOverLimit, hp]
  unfold State.grant
  dsimp only
  rw [hg]

theorem grant_negotiate (hp : s.settleYield.dispatchReady = true → s.settleYield.passOver < 8)
    (hn : s.settleYield.negotiateReady = true) : s.grant mda = s.settleYield.grantNegotiate mda := by
  have hg : s.settleYield.grantChoice = some .negotiate := by
    simp [State.grantChoice, hr, hc, hn, notOverdue hp]
  unfold State.grant
  dsimp only
  rw [hg]

theorem grant_sweep {a : Addr} (hp : s.settleYield.dispatchReady = true → s.settleYield.passOver < 8)
    (hn : s.settleYield.negotiateReady = false) (ha : s.settleYield.sweepChoice = some a) :
    s.grant mda = s.settleYield.grantSweep a mda := by
  have hg : s.settleYield.grantChoice = some .sweep := by
    simp [State.grantChoice, hr, hc, hn, State.sweepReady, ha, notOverdue hp]
  unfold State.grant
  dsimp only
  rw [hg]
  dsimp only
  rw [ha]

/-- DISPATCH comes last. -/
theorem grant_dispatch_last (hn : s.settleYield.negotiateReady = false) (hw : s.settleYield.sweepReady = false)
    (hd : s.settleYield.dispatchReady = true) : s.grant mda = s.settleYield.grantDispatch mda := by
  have hg : s.settleYield.grantChoice = some .dispatch := by
    simp [State.grantChoice, hr, hc, hn, hw, hd]
  unfold State.grant
  dsimp only
  rw [hg]

/-- No source is ready. -/
theorem grant_none (hn : s.settleYield.negotiateReady = false) (hw : s.settleYield.sweepReady = false)
    (hd : s.settleYield.dispatchReady = false) : s.grant mda = s := by
  have hg : s.settleYield.grantChoice = none := by
    simp [State.grantChoice, hr, hc, hn, hw, hd]
  unfold State.grant
  dsimp only
  rw [hg]

end

/-! ## The base order -/

/-- The line is BUSY with an exchange of this source. -/
def State.TakenBy (source : Source) (t : State) : Prop :=
  t.lineState = .busy ∧ ∃ x, t.exchange = some x ∧ x.source = source

theorem openExchange_taken (x : Exchange) (mda : Level) (s : State) : (s.openExchange x mda).TakenBy x.source := by
  refine ⟨(lineCheck_line x mda _).1, ?_⟩
  cases mda with
  | recessive => exact ⟨_, (leadIn_line x _).2.1, rfl⟩
  | dominant => exact ⟨_, rfl, rfl⟩

theorem grantCensus_taken (mda : Level) (s : State) : (s.grantCensus mda).TakenBy .census := by
  unfold State.grantCensus
  split
  · exact openExchange_taken _ mda _
  · exact openExchange_taken _ mda _

theorem grantNegotiate_taken {s : State} (mda : Level) (h : s.negotiateReady = true) :
    (s.grantNegotiate mda).TakenBy .negotiate := by
  unfold State.grantNegotiate
  dsimp only
  split
  · exact openExchange_taken _ mda _
  · exact openExchange_taken _ mda _
  · rename_i hn hf
    simp [State.negotiateReady, State.negotiateChoice, hn, hf] at h

theorem grantDispatch_taken {s : State} (mda : Level) (h : s.dispatchReady = true) :
    (s.grantDispatch mda).TakenBy .dispatch := by
  unfold State.grantDispatch
  split
  · rename_i hn
    simp [State.dispatchReady, hn] at h
  · exact openExchange_taken _ mda _

/-- Settles O40: the choice of each source, by the order in which the arbiter asks them. -/
theorem grantFollowsBaseOrder : Obligations.GrantFollowsBaseOrder := by
  intro s mda h hle granted asks others
  obtain ⟨hrel, hneg, hsweep, hdis, hpass⟩ := settleYield_ready s
  have hgranted {source : Source} (k : (s.grant mda).TakenBy source) : granted source := by
    obtain ⟨hl, x, hx, hs⟩ := k
    exact ⟨s.grant mda, x, exec_lineGrant mda h, hl, hx, hs⟩
  refine ⟨fun hr => hgranted ?_, fun hr => ⟨fun ha hy => hgranted ?_, fun hno => ?_⟩⟩
  · obtain ⟨a, ha⟩ := Option.isSome_iff_exists.mp (hrel.trans hr)
    rw [grant_release mda ha]
    exact openExchange_taken _ mda _
  · rw [grant_census mda (hrel.trans hr) ((settleYield_census h.2 hr).mpr ⟨ha, hy⟩)]
    exact grantCensus_taken mda _
  have hr' := hrel.trans hr
  have hc : s.settleYield.censusReady = false := by
    rw [← Bool.not_eq_true, settleYield_census h.2 hr]
    rintro ⟨ha, hy⟩
    rcases hno with hna | ⟨hyield, hothers⟩
    · exact hna ha
    · rcases hy with hy | hy
      · simp [hyield] at hy
      · exact hy hothers
  refine ⟨fun hd hp => hgranted ?_, fun hp => ⟨fun hn => hgranted ?_, fun hn => ⟨fun hw => hgranted ?_, fun hw =>
    ⟨fun hd => hgranted ?_, fun hd => ?_⟩⟩⟩⟩
  · rw [grant_dispatch_overdue mda hr' hc (hdis.trans hd) (by omega)]
    exact grantDispatch_taken mda (hdis.trans hd)
  · rw [grant_negotiate mda hr' hc (by rwa [hdis, hpass]) (hneg.trans hn)]
    exact grantNegotiate_taken mda (hneg.trans hn)
  · obtain ⟨a, ha⟩ := Option.isSome_iff_exists.mp (hsweep.trans hw)
    rw [grant_sweep mda hr' hc (by rwa [hdis, hpass]) (hneg.trans hn) ha]
    exact openExchange_taken _ mda _
  · rw [grant_dispatch_last mda hr' hc (hneg.trans hn) (hsweep.trans hw) (hdis.trans hd)]
    exact grantDispatch_taken mda (hdis.trans hd)
  · rw [exec_lineGrant mda h, grant_none mda hr' hc (hneg.trans hn) (hsweep.trans hw) (hdis.trans hd)]

/-! ## The next due entry -/

/-- Whether the sweep would poll an entry (R100). -/
def Entry.pollDue (e : Entry) : Bool := e.due && !e.inHoldOff

theorem pollDue_iff {e : Entry} : e.pollDue = true ↔ e.due = true ∧ e.holdOff = none := by
  simp [Entry.pollDue, Entry.inHoldOff]

/-- The sweep's search meets first the entry that is nearest behind the pointer (R96, R100). -/
theorem sweepChoice_first {s : State} {a : Addr} (ha : (s.entry a).pollDue = true)
    (hb : ∀ b : Addr, (s.entry b).pollDue = true →
      (a.val + 48 - s.sweepPointer.val) % 24 ≤ (b.val + 48 - s.sweepPointer.val) % 24) : s.sweepChoice = some a := by
  have hp := s.sweepPointer.isLt
  have hplace (k : Nat) (hk : k < 24) : ((s.sweepPointer.val + k) % 24 + 48 - s.sweepPointer.val) % 24 = k := by omega
  have haddr : (⟨(s.sweepPointer.val + (a.val + 48 - s.sweepPointer.val) % 24) % 24, Nat.mod_lt _ (by decide)⟩ : Addr) = a :=
    Fin.ext (by have := a.isLt; show (_ + _) % 24 = a.val; omega)
  have hfind : (List.range 24).find? (fun k => (s.entry ⟨(s.sweepPointer.val + k) % 24, Nat.mod_lt _ (by decide)⟩).pollDue) =
      some ((a.val + 48 - s.sweepPointer.val) % 24) := by
    refine List.find?_range_eq_some.mpr ⟨?_, List.mem_range.mpr (Nat.mod_lt _ (by decide)), fun k hk => ?_⟩
    · rw [haddr]
      exact ha
    · rw [Bool.not_eq_true', ← Bool.not_eq_true]
      intro hdue
      have := hb _ hdue
      dsimp only at this
      rw [hplace k (hk.trans (Nat.mod_lt _ (by decide)))] at this
      omega
  unfold State.sweepChoice sweepOrder
  rw [List.find?_map]
  refine (congrArg (Option.map _) hfind).trans ?_
  exact congrArg some haddr

/-- Settles O35: the due entry that the sweep meets first, and the POLL of a new exchange. -/
theorem grantPollsTheNextDueEntry : Obligations.GrantPollsTheNextDueEntry := by
  intro s a mda h hr hc hn hp hdue hhold hnext
  have hchoice : s.sweepChoice = some a :=
    sweepChoice_first (pollDue_iff.mpr ⟨hdue, hhold⟩) fun b hb => hnext b (pollDue_iff.mp hb).1 (pollDue_iff.mp hb).2
  have hset : s.settleYield = s :=
    settleYield_of_ready (otherReady_iff.mpr (.inr (.inr (.inl (by rw [State.sweepReady, hchoice]; rfl)))))
  rw [exec_lineGrant mda h, grant_sweep (a := a) mda (by rwa [hset]) (by rwa [hset]) (by rwa [hset]) (by rwa [hset])
    (by rwa [hset]), hset, State.grantSweep, openExchange_new mda (by simp [State.addressedFrame]) (by simp) rfl]
  rfl

end Sys2Proof.Machine
end

section
/-! PROOF. What a grant to NEGOTIATE (O32) and a grant to DISPATCH (O18) put on the line. -/

namespace Sys2Proof.Machine

/-! ## The coordinator page of an index -/

/-- The bits that the kind of a word names. -/
theorem pageKind_message {w : PageWord} (h : pageKind w = .message) : w.getLsbD 14 = false ∧ w.getLsbD 13 = true := by
  unfold pageKind at h
  split at h <;> simp_all

/-- A NULL page keeps of its kind and its code the one bit that is set (R73). -/
theorem null_bits {w : PageWord} (h : pageKind w = .message) (hc : pageCode w = 0) : w &&& 0x6FC0 = 0x2000 := by
  obtain ⟨h14, h13⟩ := pageKind_message h
  have hcode : w.extractLsb' 6 6 = 0 := BitVec.eq_of_toNat_eq hc
  have hbit (j : Nat) (hj : j < 6) : w.getLsbD (6 + j) = false := by
    have := congrArg (fun v : BitVec 6 => v.getLsbD j) hcode
    simpa [BitVec.getLsbD_extractLsb', hj] using this
  have h6 := hbit 0 (by decide)
  have h7 := hbit 1 (by decide)
  have h8 := hbit 2 (by decide)
  have h9 := hbit 3 (by decide)
  have h10 := hbit 4 (by decide)
  have h11 := hbit 5 (by decide)
  refine BitVec.eq_of_getLsbD_eq fun i hi => ?_
  rw [BitVec.getLsbD_and]
  interval_cases i <;> simp_all

/-- A page word as it is sent, without more and agree, by its kind (R73, R76). -/
theorem pageSent_used (w : PageWord) : pageSent w &&& 0x6FFF = match pageKind w with
    | .base => w &&& 0x6FF0
    | .message => if pageCode w = 0 then 0x2000 else w &&& 0x6FF8
    | _ => w &&& 0x6FFF := by
  unfold pageSent pageUnused
  cases hk : pageKind w with
  | message =>
    by_cases hc : pageCode w = 0
    · rw [if_pos (pageIsNull_iff.mpr ⟨hk, hc⟩), BitVec.and_assoc]
      simpa [hc] using null_bits hk hc
    · rw [if_neg (fun h => hc (pageIsNull_iff.mp h).2), BitVec.and_assoc]
      simp [hc]
  | base => simp [pageIsNull, hk, BitVec.and_assoc]
  | plain => simp [pageIsNull, hk, BitVec.and_assoc]
  | invalid => simp [pageIsNull, hk, BitVec.and_assoc]

/-- The coordinator page of an index (R76). -/
theorem offerPage_eq (o : Offer) (i : Nat) : o.page i = if i < o.count then
      (if i + 1 < o.count then 0x8000 else 0) ||| 0x1000 ||| (match pageKind (o.word i) with
        | .base => o.word i &&& 0x6FF0
        | .message => if pageCode (o.word i) = 0 then 0x2000 else o.word i &&& 0x6FF8
        | _ => o.word i &&& 0x6FFF)
    else 0x3000 := by
  unfold Offer.page pageWithMarks
  rw [pageSent_used]
  simp only [Offer.more, decide_eq_true_eq, if_true]
  split
  · rw [BitVec.or_assoc, BitVec.or_comm]
  · rfl

/-! ## A grant to NEGOTIATE -/

/-- The PAGE of a negotiation takes the line (R76, R79). -/
theorem openExchange_page (n : Negotiation) (mda : Level) (s : State) : s.openExchange (s.pageExchange n) mda = { s with
    lineState := .busy
    lineRateInForce := if mda = .recessive then s.lineRate else s.lineRateInForce
    exchange := some {
      source := .negotiate
      frame := {
        address := some n.address, toggle := (s.entry n.address).toggle, kind := .page, ackFlag := false
        payload := wordBytes (s.active.page n.next) ++ [BitVec.ofNat 8 n.next] }
      sentToggle := (s.entry n.address).toggle, shape := .page n.next, allowed := 1 + s.retryLimit.toNat
      used := if mda = .recessive then 1 else 0, phase := if mda = .recessive then .command else .lineCheck
      lastFailure := none, interruptTaken := false, discard := false } } := by
  rw [State.pageExchange, openExchange_new mda (by simp [State.addressedFrame]) (by simp) rfl]
  rfl

/-- The state in which a grant to NEGOTIATE chooses its page (R50). -/
def State.passedOver (s : State) : State := { s with passOver := s.passOverAfter, yield := false }

/-- The negotiation in progress sends its next PAGE (R79). -/
theorem grantNegotiate_goesOn {s : State} {n : Negotiation} (mda : Level) (h : s.negotiation = some n) :
    s.grantNegotiate mda = s.passedOver.openExchange (s.passedOver.pageExchange n) mda := by
  unfold State.grantNegotiate
  dsimp only
  split
  · rename_i m hm
    obtain rfl : m = n := Option.some.inj (hm.symm.trans h)
    rfl
  · simp_all
  · simp_all

/-- A negotiation starts from the FIFO head (R78). -/
theorem grantNegotiate_starts {s : State} {a : Addr} {rest : List Addr} (mda : Level) (h : s.negotiation = none)
    (hf : s.fifo = a :: rest) : s.grantNegotiate mda = (s.passedOver.startNegotiation a).openExchange
      ((s.passedOver.startNegotiation a).pageExchange { address := a, next := 0, restarts := 0, waits := 0 }) mda := by
  unfold State.grantNegotiate
  dsimp only
  split
  · simp_all
  · rename_i b l _ hb
    obtain ⟨rfl, rfl⟩ : b = a ∧ l = rest := List.cons.inj (hb.symm.trans hf)
    rfl
  · simp_all

/-- Settles O32: the negotiation in progress goes on, or one starts from the FIFO head, and its PAGE takes the line. -/
theorem grantStartsNegotiation : Obligations.GrantStartsNegotiation := by
  intro s mda h hr hc hp page sent
  have hpage (i : Nat) : s.active.page i = page i := offerPage_eq s.active i
  have hgrant (hn : s.negotiateReady = true) : exec (.lineGrant mda) s = .next (s.grantNegotiate mda) := by
    have hset : s.settleYield = s := settleYield_of_ready (otherReady_iff.mpr (.inr (.inl hn)))
    rw [exec_lineGrant mda h, grant_negotiate mda (by rwa [hset]) (by rwa [hset]) (by rwa [hset]) (by rwa [hset]), hset]
  refine ⟨fun a rest hneg hcommit hfifo hhold => ?_, fun n hneg hhold => ?_⟩
  · have hready : s.negotiateReady = true := by
      simp [State.negotiateReady, State.negotiateChoice, hneg, hfifo, hcommit, Entry.inHoldOff, hhold]
    have htail : s.passedOver.fifo.tail = rest := congrArg List.tail hfifo
    have htoggle : ((s.passedOver.startNegotiation a).entry a).toggle = (s.entry a).toggle := by
      show ((s.passedOver.modifyEntry a fun e => { e with state := .negotiating, due := false, pages := [] }).entry a).toggle = _
      rw [entry_modifyEntry_self]
      rfl
    rw [hgrant hready, grantNegotiate_starts mda hneg hfifo, openExchange_page, htoggle]
    rw [show (s.passedOver.startNegotiation a).active.page 0 = page 0 from hpage 0]
    rw [State.startNegotiation, htail]
    rfl
  · have hready : s.negotiateReady = true := by
      simp [State.negotiateReady, State.negotiateChoice, hneg, Entry.inHoldOff, hhold]
    rw [hgrant hready, grantNegotiate_goesOn mda hneg, openExchange_page,
      show s.passedOver.active.page n.next = page n.next from hpage n.next]
    rfl

/-! ## A grant to DISPATCH -/

/-- The first element of a list that satisfies a test is the one that changes. -/
theorem updateFirst_append {α : Type} {p : α → Bool} (f : α → α) {l1 l2 : List α} {x : α} (h : ∀ y ∈ l1, p y = false)
    (hx : p x = true) : updateFirst p f (l1 ++ x :: l2) = l1 ++ f x :: l2 := by
  induction l1 with
  | nil => exact if_pos hx
  | cons y rest ih =>
    rw [List.cons_append, updateFirst, if_neg (by simp [h y (by simp)]), ih fun z hz => h z (by simp [hz])]
    rfl

/-- The first ready request of the queue's rest starts (R119, R121). -/
theorem startFirst_ready {s : State} {front older rest : List Request} {r : Request}
    (hr : s.requestReady (front ++ older) r = true)
    (hn : ∀ before q after, older = before ++ q :: after → s.requestReady (front ++ before) q = false) :
    s.startFirst front (older ++ r :: rest) = some (r, older ++ { r with phase := .onLine } :: rest) := by
  induction older generalizing front with
  | nil =>
    rw [List.append_nil] at hr
    exact if_pos hr
  | cons q older ih =>
    have hq : s.requestReady front q = false := by simpa using hn [] q older rfl
    rw [List.cons_append, State.startFirst, if_neg (by simp [hq]), ih]
    · rfl
    · simpa using hr
    · intro before p after hp
      simpa using hn (q :: before) p after (by simp [hp])

/-- When a request that is not ON-LINE is ready behind older ones (R119). -/
theorem requestReady_iff {s : State} {older : List Request} {r : Request} (h : r.phase ≠ .onLine) :
    s.requestReady older r = true ↔
      r.verdict = none ∧ (r.phase = .held ∨ (r.phase = .unstarted ∧ s.occupancy < 16)) ∧
        (∀ p ∈ older, p.address ≠ none) ∧ (r.address = none → older = []) ∧
        ∀ a, r.address = some a → (s.entry a).state = .active ∧ (s.entry a).holdOff = none ∧
          ∀ p ∈ older, p.address ≠ some a := by
  have hphase : (r.phase = .held ∨ (r.phase = .unstarted ∧ s.occupancy < 16)) ↔
      (r.phase = .unstarted → s.occupancy < 16) := by
    cases hp : r.phase <;> simp_all
  have hroom : (r.phase != .unstarted || decide (s.occupancy < Config.ringSlots)) = true ↔
      (r.phase = .unstarted → s.occupancy < 16) := by
    rw [Bool.or_eq_true, bne_iff_ne, decide_eq_true_eq, ← imp_iff_not_or]
    rfl
  rw [hphase, ← hroom]
  unfold State.requestReady
  simp only [Bool.and_eq_true, Option.isNone_iff_eq_none, bne_iff_ne, List.all_eq_true, ne_eq, h, not_false_eq_true, and_true]
  cases r.address with
  | none =>
    rw [List.isEmpty_iff]
    exact ⟨fun ⟨⟨⟨hv, he⟩, hall⟩, hp⟩ => ⟨hv, hp, hall, fun _ => he, nofun⟩,
      fun ⟨hv, hp, hall, he, _⟩ => ⟨⟨⟨hv, he rfl⟩, hall⟩, hp⟩⟩
  | some a =>
    simp only [Bool.and_eq_true, beq_iff_eq, Bool.not_eq_true', Entry.inHoldOff, Option.isSome_eq_false_iff,
      Option.isNone_iff_eq_none, List.all_eq_true, bne_iff_ne, ne_eq]
    refine ⟨fun ⟨⟨⟨hv, ⟨hact, hhold⟩, hother⟩, hall⟩, hp⟩ => ⟨hv, hp, hall, nofun, fun b hb => ?_⟩,
      fun ⟨hv, hp, hall, _, hsome⟩ => ?_⟩
    · obtain rfl := Option.some.inj hb
      exact ⟨hact, hhold, hother⟩
    · obtain ⟨hact, hhold, hother⟩ := hsome a rfl
      exact ⟨⟨⟨hv, ⟨hact, hhold⟩, hother⟩, hall⟩, hp⟩

/-- A request's frame carries its entry's toggle, or 0 (R122). -/
theorem requestFrame_toggle (r : Request) (s : State) : s.toggleFor (s.requestFrame r) = (s.requestFrame r).toggle := by
  unfold State.requestFrame
  cases ha : r.address with
  | none => cases hk : r.kind <;> simp [State.toggleFor, Frame.addressed, Request.frameKind, hk]
  | some a => cases hk : r.kind <;> simp [State.toggleFor, Frame.addressed, State.addressedFrame, Request.frameKind, hk]

theorem requestFrame_kind (r : Request) (s : State) : (s.requestFrame r).kind = r.frameKind := by
  unfold State.requestFrame
  cases r.address <;> rfl

/-- The frame of a request, the answer it expects and its attempts (R37, R122). -/
theorem requestExchange_eq (r : Request) (s : State) : s.requestExchange r =
    let toggle : Bool := match r.address with | some a => (s.entry a).toggle | none => false
    { source := .dispatch
      frame := { address := r.address, toggle := toggle, ackFlag := false,
                 kind := match r.kind with | .write => .write | .read => .read
                 payload := match r.kind with
                   | .write => r.object :: r.payload.toList.take r.length
                   | .read => [r.object, BitVec.ofNat 8 r.length] }
      sentToggle := toggle
      shape := match r.kind, r.address with
        | .write, none => .noAnswer
        | .write, some a => .write ((s.entry a).terms.any fun t => t.confirm)
        | .read, _ => .read r.length
      allowed := if r.noRetry then 1 else 1 + s.retryLimit.toNat
      used := 0, phase := .lineCheck, lastFailure := none, interruptTaken := false, discard := false } := by
  unfold State.requestExchange State.requestFrame State.requestShape Request.frameKind Request.framePayload
  cases r.address <;> cases r.kind <;> rfl

/-- The exchange of a request that comes ON-LINE takes the line (R37, R122). -/
theorem openExchange_request {s : State} {older rest : List Request} {r : Request} (mda : Level)
    (hq : s.queue = older ++ { r with phase := .onLine } :: rest) (hn : ∀ q ∈ older, q.isOnLine = false) :
    s.openExchange (s.requestExchange r) mda = { s with
      lineState := .busy
      lineRateInForce := if mda = .recessive then s.lineRate else s.lineRateInForce
      queue := older ++ { r with
        phase := .onLine, attempts := if mda = .recessive then min 15 (r.attempts + 1) else r.attempts } :: rest
      exchange := some { s.requestExchange r with
        used := if mda = .recessive then 1 else 0, phase := if mda = .recessive then .command else .lineCheck } } := by
  cases mda with
  | dominant =>
    rw [show (if Level.dominant = .recessive then min 15 (r.attempts + 1) else r.attempts) = r.attempts from rfl, ← hq]
    rfl
  | recessive =>
    have hx : ({ s with lineState := .busy } : State).exchangeAtLeadIn (s.requestExchange r) =
        { s.requestExchange r with phase := .command, used := 1 } := by
      have ht : State.toggleFor { s with lineState := .busy } (s.requestFrame r) = (s.requestFrame r).toggle :=
        requestFrame_toggle r s
      have hk : (s.requestFrame r).kind ≠ .claim := by
        rw [requestFrame_kind]
        unfold Request.frameKind
        split <;> simp
      simp [State.exchangeAtLeadIn, State.requestExchange, newExchange, hk, ht]
    have hqueue : updateFirst Request.isOnLine (fun q => { q with attempts := min 15 (q.attempts + 1) }) s.queue =
        older ++ { r with phase := .onLine, attempts := min 15 (r.attempts + 1) } :: rest := by
      rw [hq]
      exact updateFirst_append _ hn rfl
    rw [State.openExchange, State.lineCheck, leadIn_eq, hx, if_pos rfl, hqueue]
    rfl

/-- Settles O18: the oldest ready request is the one that starts, and its frame takes the line. -/
theorem grantStartsTheRequest : Obligations.GrantStartsTheRequest := by
  intro s older rest r mda h hr hc hturn hqueue honline ready hready hfirst toggle
  have hiff {before : List Request} {q : Request} (hq : q ∈ s.queue) : s.requestReady before q = true ↔ ready before q :=
    requestReady_iff (honline q hq)
  have hstart : s.startFirst [] s.queue = some (r, older ++ { r with phase := .onLine } :: rest) := by
    rw [hqueue]
    refine startFirst_ready ((hiff (by simp [hqueue])).mpr hready) fun before q after hq => ?_
    rw [← Bool.not_eq_true, List.nil_append, hiff (by simp [hqueue, hq])]
    exact hfirst before q after hq
  have hdis : s.dispatchReady = true := by rw [State.dispatchReady, hstart]; rfl
  have hset : s.settleYield = s := settleYield_of_ready (otherReady_iff.mpr (.inr (.inr (.inr hdis))))
  have hgrant : s.grant mda = s.grantDispatch mda := by
    rcases hturn with ⟨hn, hw⟩ | hp
    · rw [grant_dispatch_last mda (by rwa [hset]) (by rwa [hset]) (by rwa [hset]) (by rwa [hset]) (by rwa [hset]), hset]
    · rw [grant_dispatch_overdue mda (by rwa [hset]) (by rwa [hset]) (by rwa [hset]) (by rwa [hset]), hset]
  have holder (q : Request) (hq : q ∈ older) : q.isOnLine = false := by
    simpa [Request.isOnLine] using honline q (by simp [hqueue, hq])
  rw [exec_lineGrant mda h, hgrant, State.grantDispatch, hstart]
  dsimp only
  have hopen := openExchange_request (s := { s with
    passOver := 0, yield := false, queue := older ++ { r with phase := .onLine } :: rest }) mda rfl holder
  rw [show State.requestExchange s r = State.requestExchange { s with
    passOver := 0, yield := false, queue := older ++ { r with phase := .onLine } :: rest } r from rfl, hopen, requestExchange_eq]
  rfl

end Sys2Proof.Machine
end

section
/-! PROOF. Rounds that end without a CLAIM (O10), and the tails of command frames that expect no answer (O20). -/

namespace Sys2Proof.Machine

/-! ## The events -/

section
variable {s : State} {x : Exchange}

theorem exec_commandSent (hr : s.resetAsserted = false) (hx : s.exchange = some x) (hp : x.phase = .command) :
    exec .commandSent s = .next (s.commandTail x) := by
  show Host.Outcome.next (s.unlessReset _) = _
  rw [unlessReset_released hr, exchangeIn_self hx (by simp [hp])]

/-- The field of an interrupted round is read without a CLAIM (R46, R66, R68). -/
theorem exec_fieldEnd_interrupted (u : UnitNumber) (check : Byte) (mda : Level) (hr : s.resetAsserted = false)
    (hx : s.exchange = some x) (hshape : x.shape = .field) (hp : x.phase = .command ∨ x.phase = .field)
    (hi : x.interruptTaken = true) : exec (.fieldEnd u check mda) s = .next (s.endExchange .interrupted) := by
  show Host.Outcome.next (s.unlessReset _) = _
  rw [unlessReset_released hr, exchangeIn_self hx (by rcases hp with k | k <;> simp [k, hshape])]
  exact congrArg Host.Outcome.next (if_pos hi)

theorem commandTail_noAnswer (h : x.shape = .noAnswer) : s.commandTail x = s.endExchange .sent := by
  rw [State.commandTail, h]

theorem commandTail_field (h : x.shape = .field) :
    s.commandTail x = { s with exchange := some { x with phase := .field } } := by
  rw [State.commandTail, h]

theorem commandTail_awaits (h : x.shape.expectsAnswer = true) :
    s.commandTail x = { s with exchange := some { x with phase := .reply } } := by
  unfold State.commandTail
  split
  · simp_all [AnswerShape.expectsAnswer]
  · simp_all [AnswerShape.expectsAnswer]
  all_goals rfl

/-! ## Rounds -/

theorem judgeField_empty (check : Byte) (mda : Level) : s.judgeField x 0xFFFFFFFFFF check mda =
    s.closeField fun t => t.roundEndsRun .complete 0 := if_pos rfl

theorem judgeField_garbled {u : UnitNumber} {check : Byte} {mda : Level} (hu : u ≠ 0xFFFFFFFFFF)
    (hc : check ≠ checkByte (unitBytes u)) : s.judgeField x u check mda = s.closeField fun t => t.failRound :=
  (if_neg hu).trans (if_pos hc)

/-- A round that fails counts a failure and is over (R63, R65). -/
theorem failRound_roundOver (s : State) :
    ({ s with failures := s.failures + 1 } : State).RoundOver ({ s with exchange := none } : State).failRound.lineFreed :=
  afterRound_roundOver { s with failures := s.failures + 1 }

/-- A round that is interrupted on a DRAINING line ends the run with LINE (R66). -/
theorem interruptedRound_roundOver (hl : s.lineState = .draining) (hc : s.censusState ≠ .idle) :
    s.RoundOver (({ s with exchange := none } : State).censusEnd .interrupted).lineFreed := by
  have hlost : ({ s with exchange := none } : State).censusEnd .interrupted =
      { s.withRunEnded .line 0 with exchange := none } := by
    show ({ s with exchange := none } : State).endRunLine = _
    rw [endRunLine_eq, State.withRunLost, if_neg (by exact hc)]
    rfl
  rw [State.RoundOver, if_pos hl, hlost]
  exact lineFreed_freed (s.withRunEnded .line 0)

/-- An empty field ends the run (R59, R65). -/
theorem emptyField_lineFreed (s : State) :
    (s.withRunEnded (if s.censusState = .stopping then .stopped else .complete) 0).LineFreed
      (s.closeField fun t => t.roundEndsRun .complete 0) := by
  have hends : ({ s with exchange := none } : State).roundEndsRun .complete 0 =
      { s.withRunEnded (if s.censusState = .stopping then .stopped else .complete) 0 with exchange := none } := by
    unfold State.roundEndsRun
    simp only [endRun_eq]
    split <;> rfl
  rw [State.closeField, hends]
  exact lineFreed_freed _

end

/-- Settles O10: the empty field, the garbled one and the exhausted exchange on a BUSY line; on a DRAINING line every end is
that of an interrupted round. -/
theorem roundEndsWithoutClaim : Obligations.RoundEndsWithoutClaim := by
  intro s x ho hx hs hd hc ends inField attemptFails
  have hnot : x.source ≠ .clearDismiss := by simp [hs]
  refine ⟨fun hb hi => ?_, fun hl hi => ⟨fun c reason hf => ?_, fun hshape hp => ?_, fun u check mda hin => ?_⟩⟩
  · intro failed
    refine ⟨fun check mda hin => ?_, fun u check mda hin hu hcheck => ?_, fun hused c reason hf => ?_⟩
    · refine ⟨_, exec_fieldEnd mda check ⟨ho, hb, hx, hi, hd⟩ hin.1 hin.2, ?_⟩
      rw [judgeField_empty]
      exact emptyField_lineFreed s
    · refine ⟨_, exec_fieldEnd mda check ⟨ho, hb, hx, hi, hd⟩ hin.1 hin.2, ?_⟩
      rw [judgeField_garbled hu hcheck]
      exact failRound_roundOver s
    · refine ⟨_, exec_failsBy ho.1 hx hf, ?_⟩
      rw [attemptFails_exhausted reason hi hused hd hnot, handEnd_census hs]
      exact failRound_roundOver s
  · refine ⟨_, exec_failsBy ho.1 hx hf, ?_⟩
    rw [attemptFails_interrupted reason hi hd hnot, handEnd_census hs]
    exact interruptedRound_roundOver hl hc
  · rw [exec_commandSent ho.1 hx hp, commandTail_field hshape]
  · refine ⟨_, exec_fieldEnd_interrupted u check mda ho.1 hx hin.1 hin.2 hi, ?_⟩
    rw [endExchange_handed _ hx hd hnot, handEnd_census hs]
    exact interruptedRound_roundOver hl hc

/-! ## The tails of command frames -/

/-- The emptying stage leaves the yield. -/
theorem finishClear_yield (s : State) : s.finishClear.yield = s.yield := by
  show s.endNegotiation.yield = s.yield
  rw [endNegotiation_eq]
  rfl

/-- The end of the CLEAR's DISMISS leads to the emptying stage (R171). -/
theorem endExchange_clearDismiss {s : State} {x : Exchange} (e : ExchangeEnd) (hx : s.exchange = some x)
    (hs : x.source = .clearDismiss) : s.endExchange e = ({ s with exchange := none } : State).lineFreed.finishClear := by
  simp [State.endExchange, hx, hs]

/-- A request whose frame expects no answer is done when the frame is sent (R124). -/
theorem requestEnd_sent {s : State} {r : Request} (h : s.queue.find? Request.isOnLine = some r) :
    s.requestEnd .sent = s.withRecord r .done 0 [] := by
  simp only [State.requestEnd, State.onLine?, h, completeRequest_eq]

/-- Settles O20: what the tail of a frame does, by the answer that its shape awaits. -/
theorem commandSentEndsOrAwaits : Obligations.CommandSentEndsOrAwaits := by
  refine ⟨fun s x ho _ hx hd hp => ⟨fun r hs hshape honline hr => ?_, fun hs hshape => ?_, fun hshape => ?_, fun hshape => ?_⟩,
    fun s x hr hl hx hs hshape hp => ?_⟩
  · intro ends
    have hnot : x.source ≠ .clearDismiss := by simp [hs]
    have hrecord (result : Completion) : ({ s with exchange := none } : State).withRecord r result 0 [] =
        { s.withRecord r result 0 [] with exchange := none } := rfl
    have hends {c : Instr} {result : Completion}
        (h : exec c s = .next (({ s with exchange := none } : State).withRecord r result 0 []).lineFreed) : ends c result := by
      refine ⟨_, h, ?_⟩
      rw [hrecord, ← hr]
      exact lineFreed_freed (s.withRecord r result 0 [])
    refine ⟨hends ?_, fun hi hu => hends ?_⟩
    · rw [exec_commandSent ho.1 hx hp, commandTail_noAnswer hshape, endExchange_handed _ hx hd hnot, handEnd_dispatch hs]
      rw [requestEnd_sent (by exact honline)]
    · rw [exec_failsBy ho.1 hx (.inl ⟨rfl, rfl, hp⟩), attemptFails_exhausted _ hi hu hd hnot, handEnd_dispatch hs,
        requestEnd_exhausted (by exact honline), State.missFor, hr]
      rfl
  · have hnot : x.source ≠ .clearDismiss := by simp [hs]
    refine ⟨_, exec_commandSent ho.1 hx hp, ?_⟩
    rw [commandTail_noAnswer hshape, endExchange_handed _ hx hd hnot, handEnd_census hs]
    exact afterRound_roundOver { s with dismissOwed := false, failures := 0 }
  · rw [exec_commandSent ho.1 hx hp, commandTail_field hshape]
  · rw [exec_commandSent ho.1 hx hp, commandTail_awaits hshape]
  · refine ⟨_, exec_commandSent hr hx hp, ?_⟩
    rw [commandTail_noAnswer hshape, endExchange_clearDismiss _ hx hs, lineFreed_busy _ (by exact hl), finishClear_yield]

end Sys2Proof.Machine
end

section
/-! PROOF. ABORT, by the phase of the request it names (O17). -/

namespace Sys2Proof.Machine

/-! ## The first element that is changed -/

section
variable {α : Type} {p q : α → Bool} {f g : α → α} {l : List α} {x : α}

/-- The changed element is the first of another kind, if it was that before. -/
theorem find?_updateFirst (hp : l.find? p = some x) (hq : l.find? q = some x) (hf : q (f x) = true) :
    (updateFirst p f l).find? q = some (f x) := by
  have hpx := List.find?_some hp
  induction l with
  | nil => simp at hp
  | cons y rest ih =>
    unfold updateFirst
    by_cases hy : p y = true
    · obtain rfl : y = x := by simpa [hy] using hp
      simp [hy, hf]
    · have hqy : q y = false := by
        rw [← Bool.not_eq_true]
        intro hqy
        obtain rfl : y = x := by simpa [hqy] using hq
        exact hy hpx
      rw [if_neg hy, List.find?_cons_of_neg (by simp [hqy])]
      exact ih (by simpa [hy] using hp) (by simpa [hqy] using hq)

/-- The changed element leaves its list as it would have unchanged. -/
theorem eraseP_updateFirst (hp : l.find? p = some x) (hq : l.find? q = some x) (hf : q (f x) = true) :
    (updateFirst p f l).eraseP q = l.eraseP p := by
  have hpx := List.find?_some hp
  induction l with
  | nil => simp at hp
  | cons y rest ih =>
    unfold updateFirst
    by_cases hy : p y = true
    · obtain rfl : y = x := by simpa [hy] using hp
      simp [hy, hf]
    · have hqy : q y = false := by
        rw [← Bool.not_eq_true]
        intro hqy
        obtain rfl : y = x := by simpa [hqy] using hq
        exact hy hpx
      rw [if_neg hy, List.eraseP_cons_of_neg (by simp [hqy]), List.eraseP_cons_of_neg hy]
      rw [ih (by simpa [hy] using hp) (by simpa [hqy] using hq)]

/-- Two changes of one element are one. -/
theorem updateFirst_updateFirst (hf : ∀ y, p y = true → p (f y) = true) :
    updateFirst p g (updateFirst p f l) = updateFirst p (fun y => g (f y)) l := by
  induction l with
  | nil => rfl
  | cons y rest ih =>
    by_cases hy : p y = true
    · simp [updateFirst, hy, hf y hy]
    · simp [updateFirst, hy, ih]

/-- A change that leaves a test leaves its count. -/
theorem countP_updateFirst_same (hf : ∀ y, q (f y) = q y) : (updateFirst p f l).countP q = l.countP q := by
  cases h : l.find? p with
  | none => rw [updateFirst_none p f l h]
  | some x =>
    have := countP_updateFirst p q f l x h
    rw [hf x] at this
    omega

end

/-! ## The request that an ABORT marks (R135) -/

/-- A request that has been marked. -/
def Request.marked (r : Request) : Request := { r with abortRequested := true }

section
variable {s : State} {r : Request} {ticket : Byte}

theorem request?_ticket (h : s.queue.find? (Request.hasTicket ticket) = some r) : r.ticket = ticket := by
  simpa [Request.hasTicket] using List.find?_some h

theorem markAborted_room (ticket : Byte) (s : State) :
    (s.markAborted ticket).occupancy = s.occupancy ∧ (s.markAborted ticket).waiting = s.waiting := by
  have hcount (q : Request → Bool) (hq : ∀ r : Request, q r.marked = q r) :
      (s.markAborted ticket).queue.countP q = s.queue.countP q := countP_updateFirst_same hq
  constructor
  · rw [occupancy_eq, occupancy_eq, reservedIn, reservedIn, hcount _ fun _ => rfl]
    rfl
  · rw [waiting_eq, waiting_eq, waitingOf, waitingOf, hcount _ fun _ => rfl]
    rfl

/-- The marked request is the one that holds the ticket. -/
theorem markAborted_request (h : s.queue.find? (Request.hasTicket ticket) = some r) :
    (s.markAborted ticket).request? ticket = some r.marked :=
  have hp : Request.hasTicket ticket r = true := List.find?_some h
  find?_updateFirst h h hp

/-- The state in which the record of the aborted request has been posted (R131, R136). -/
def State.withAborted (r : Request) (s : State) : State := { s with
  queue := s.queue.eraseP (Request.hasTicket r.ticket)
  ring := s.ring ++ [.request {
      address := r.address, ticket := r.ticket, result := .aborted, reason := 0,
      attempts := r.attempts, abortRequested := true, waits := r.waits, payload := [] }]
  cause := s.cause ||| 0x01 }

/-- The marked request's record is posted (R131, R135, R136). -/
theorem markAborted_posts (h : s.queue.find? (Request.hasTicket r.ticket) = some r) :
    (s.markAborted r.ticket).postRequest r.marked .aborted = s.withAborted r := by
  have hp : Request.hasTicket r.ticket r = true := List.find?_some h
  have herase : (updateFirst (Request.hasTicket r.ticket) Request.marked s.queue).eraseP (Request.hasTicket r.ticket) =
      s.queue.eraseP (Request.hasTicket r.ticket) := eraseP_updateFirst h h hp
  unfold State.withAborted
  rw [← herase]
  rfl

/-- The verdict of a marked request, by its phase and the room in the ring (R132). -/
theorem markAborted_verdict (h : s.queue.find? (Request.hasTicket r.ticket) = some r) (hv : r.verdict = none) :
    (s.markAborted r.ticket).giveVerdict r.ticket .aborted = match r.phase with
      | .onLine => s.markAborted r.ticket
      | .held => s.withAborted r
      | .unstarted => if s.roomNow then s.withAborted r
        else (s.markAborted r.ticket).noteBacklog.modifyRequest (Request.hasTicket r.ticket) fun q =>
          { q with verdict := some .aborted } := by
  obtain ⟨hocc, hwait⟩ := markAborted_room r.ticket s
  have hroom : (s.markAborted r.ticket).roomNow = s.roomNow := by rw [State.roomNow, State.roomNow, hocc, hwait]
  have hnone : r.marked.verdict.isSome = false := by simp [Request.marked, hv]
  unfold State.giveVerdict
  rw [markAborted_request h]
  dsimp only
  rw [hnone, hroom, markAborted_posts h]
  rfl

/-- The state in which the verdict of the aborted request waits with it (R132, R135). -/
def State.withAbortStored (r : Request) (s : State) : State := { s with
  queue := updateFirst (Request.hasTicket r.ticket)
    (fun q => { q with abortRequested := true, verdict := some .aborted }) s.queue }

/-- A verdict that waits is stored with the mark. -/
theorem markAborted_stores (r : Request) (c : Byte) (s : State) :
    State.modifyRequest (Request.hasTicket r.ticket) (fun q => { q with verdict := some .aborted })
        { s.markAborted r.ticket with cause := c } = { s.withAbortStored r with cause := c } :=
  have hq := updateFirst_updateFirst (p := Request.hasTicket r.ticket) (f := Request.marked)
    (g := fun q => { q with verdict := some .aborted }) (l := s.queue) fun _ => id
  congrArg (fun q => ({ s with queue := q, cause := c } : State)) hq

/-! ## The command -/

theorem exec_abort_none (h : s.queue.find? (Request.hasTicket s.args[0]) = none) :
    exec .abort s = .next (s.command (some .noTicket) s) := by
  show execAbort s = _
  unfold execAbort
  rw [State.request?, h]

theorem exec_abort_some (h : s.queue.find? (Request.hasTicket s.args[0]) = some r) : exec .abort s =
    .next (s.command (firstRefusal [(r.verdict.isSome, .noTicket)]) (s.abortRequest r)) := by
  show execAbort s = _
  unfold execAbort
  rw [State.request?, h]

end

/-- Settles O17: by the phase of the request, and for an ON-LINE one by the phase of its exchange. -/
theorem abortByPhase : Obligations.AbortByPhase := by
  intro s ho holds
  refine ⟨fun h => refuses_of_command ho (exec_abort_none h), fun r h hv => ?_, fun r h hv => ?_⟩
  · refine refuses_of_command (r := .noTicket) (effect := s.abortRequest r) (v := 0) ho ((exec_abort_some h).trans ?_)
    rw [Option.isSome_iff_ne_none.mpr hv]
    rfl
  have hticket : r.ticket = s.args[0] := request?_ticket h
  have htaken {t : State} (ht : s.abortRequest r = t) : exec .abort s = .next { t with result := 0, resultArg := 0 } := by
    rw [exec_abort_some h, hv, ht]
    exact congrArg Host.Outcome.next (command_taken _ _ ho.1 ho.2)
  have h' : s.queue.find? (Request.hasTicket r.ticket) = some r := hticket ▸ h
  have hholds : holds = Request.hasTicket r.ticket := by rw [hticket]
  clear_value holds
  subst hholds
  have hverdict := markAborted_verdict h' hv
  refine ⟨fun hp => htaken (t := s.withAborted r) ?_, fun hp hw => htaken (t := s.withAbortStored r) ?_,
    fun hp hocc hw => htaken (t := { s.withAbortStored r with cause := s.cause ||| 0x80 }) ?_,
    fun hp hab => htaken (t := s) ?_, fun x hp hab hx hph => ?_, fun x hab hb hx hs hd hph honline => ?_⟩
  · rcases hp with hp | ⟨hp, hocc, hw⟩
    · simp only [State.abortRequest, hp] at hverdict ⊢
      exact hverdict
    · simp only [State.abortRequest, hp] at hverdict ⊢
      rw [hverdict, if_pos ((roomNow_iff s).mpr ⟨hocc, hw⟩)]
  · have hroom : ¬s.roomNow = true := fun k => hw ((roomNow_iff s).mp k).2
    simp only [State.abortRequest, hp] at hverdict ⊢
    rw [hverdict, if_neg hroom, State.noteBacklog, if_neg (by rwa [(markAborted_room _ s).2])]
    exact markAborted_stores r s.cause s
  · have hroom : ¬s.roomNow = true := fun k => by have := ((roomNow_iff s).mp k).1; omega
    simp only [State.abortRequest, hp] at hverdict ⊢
    rw [hverdict, if_neg hroom, State.noteBacklog, if_pos (by rwa [(markAborted_room _ s).2])]
    exact markAborted_stores r (s.cause ||| 0x80) s
  · simp [State.abortRequest, hp, hab]
  · have hx' : (s.markAborted r.ticket).exchange = some x := hx
    refine htaken (t := { s.markAborted r.ticket with exchange := some { x with interruptTaken := true } }) ?_
    simp only [State.abortRequest, hp, hab, Bool.false_eq_true, if_false]
    exact interrupt_completes hx' (by tauto)
  · have hp : r.phase = .onLine := by simpa [Request.isOnLine] using List.find?_some honline
    have hx' : (s.markAborted r.ticket).exchange = some x := hx
    have honl : (s.markAborted r.ticket).queue.find? Request.isOnLine = some r.marked :=
      find?_updateFirst h' honline (by simp [Request.isOnLine, hp])
    have herase : (s.markAborted r.ticket).queue.eraseP Request.isOnLine = s.queue.eraseP (Request.hasTicket r.ticket) :=
      eraseP_updateFirst h' honline (by simp [Request.isOnLine, hp])
    have hends : s.abortRequest r = ({ s.withAborted r with exchange := none } : State).lineFreed := by
      simp only [State.abortRequest, hp, hab, Bool.false_eq_true, if_false]
      rw [interrupt_ends hx' hd (by simp [hs]) hph, handEnd_dispatch hs, requestEnd_interrupted (by exact honl), holdOrEnd_eq,
        if_pos (show r.marked.abortRequested = true from rfl)]
      unfold State.withAborted
      rw [← herase]
      rfl
    refine ⟨_, htaken hends, ?_⟩
    rw [lineFreed_busy _ (by exact hb)]
    rfl

end Sys2Proof.Machine
end

section
/-! PROOF. CLEAR: its beginning, the drain of the exchange it marks, its DISMISS and its emptying stage (O43). -/

namespace Sys2Proof.Machine

/-! ## The states that a CLEAR leaves -/

/-- The state that the emptying stage leaves (R94, R172). -/
def State.emptied (s : State) : State := { s with
  clearing := false
  active := if s.commitPending then s.shadow else s.active
  commitPending := false, negotiation := none, fifo := []
  roster := .replicate 24 Entry.empty, queue := [], ticketCounter := 0, ring := []
  stores := .replicate 24 Store.empty, censusSlot := none, sweepPointer := 0, passOver := 0
  cause := (if s.commitPending then s.cause ||| 0x04 else s.cause) ||| 0x20
  autoTimer := autoPeriod s.autoCensus }

theorem finishClear_eq (s : State) : s.finishClear = s.emptied := by
  unfold State.finishClear State.emptyAll
  rw [endNegotiation_eq]
  unfold State.emptied State.withCommitCopied
  cases s.commitPending <;> simp [State.setCause, State.restartAutoTimer, Cause.bit]

/-- The state in which the drain of a CLEAR has ended (R161, R171). -/
def State.clearFreed (s : State) : State := if s.lineState = .draining
  then ({ s with lineState := .off, exchange := none, cause := s.cause ||| 0x10 } : State).emptied
  else { s with lineState := .idle, exchange := none }

/-- The exchange is not in what the drain leaves. -/
theorem clearFreed_exchange (s : State) (x : Option Exchange) :
    ({ s with exchange := x } : State).clearFreed = s.clearFreed := rfl

/-- On a DRAINING line nothing of the roster is in what the drain leaves. -/
theorem clearFreed_setEntry {s : State} (a : Addr) (e f : Entry) (h : s.lineState = .draining) :
    (s.setEntry a e).clearFreed = (s.setEntry a f).clearFreed := by
  unfold State.clearFreed
  rw [if_pos (show (s.setEntry a e).lineState = .draining from h), if_pos (show (s.setEntry a f).lineState = .draining from h)]
  rfl

/-! ## The drain -/

section
variable {s : State} {x : Exchange}

/-- A line whose exchange ends under a CLEAR with the yield clear. -/
theorem lineFreed_noYield (hl : s.lineState = .busy) (hy : s.yield = false) :
    ({ s with exchange := none } : State).lineFreed = { s with lineState := .idle, exchange := none } := by
  rw [lineFreed_busy _ (by exact hl)]
  show ({ s with lineState := .idle, exchange := none, yield := s.yield && _ } : State) = _
  rw [hy, Bool.false_and, ← hy]

/-- Every end of an exchange that is discarded ends the drain (R171). -/
theorem endExchange_discarded (e : ExchangeEnd) (hx : s.exchange = some x) (hs : x.source ≠ .clearDismiss)
    (hd : x.discard = true) (hy : s.yield = false) (hl : s.lineState = .busy ∨ s.lineState = .draining) :
    s.endExchange e = s.clearFreed := by
  have hdrained : s.endExchange e = ({ s with exchange := none } : State).lineFreed.drained := by
    simp [State.endExchange, hx, hs, hd]
  rw [hdrained]
  rcases hl with hl | hl
  · rw [lineFreed_noYield hl hy, State.clearFreed, if_neg (by simp [hl]), State.drained, if_pos rfl]
  · rw [lineFreed_draining hl, State.clearFreed, if_pos hl, State.drained, if_neg (by simp [State.switchedOff]),
      finishClear_eq]
    rfl

theorem attemptFails_discarded (reason : Failure) (hs : x.source ≠ .clearDismiss) (hd : x.discard = true)
    (hi : x.interruptTaken = true) (hy : s.yield = false) (hl : s.lineState = .busy ∨ s.lineState = .draining) :
    s.attemptFails x reason = s.clearFreed := by
  unfold State.attemptFails
  rw [if_pos hi, endExchange_discarded (s := { s with exchange := some { x with lastFailure := some reason } })
    (x := { x with lastFailure := some reason }) _ rfl hs hd hy hl, clearFreed_exchange]

/-- An accepted answer under a CLEAR leaves its entry facts alone (R34, R171). -/
theorem acceptAnswer_discarded (answer : Answer) (hx : s.exchange = some x) (hs : x.source ≠ .clearDismiss)
    (hd : x.discard = true) (hi : x.interruptTaken = true) (hy : s.yield = false)
    (hl : s.lineState = .busy ∨ s.lineState = .draining) :
    s.acceptAnswer x answer = (s.noteAnswer x.frame answer).clearFreed := by
  have hnote := noteAnswer_sameLine x.frame answer s
  have hyield : (s.noteAnswer x.frame answer).yield = false := by
    unfold State.noteAnswer
    split <;> exact hy
  have hline : (s.noteAnswer x.frame answer).lineState = .busy ∨ (s.noteAnswer x.frame answer).lineState = .draining := by
    rwa [hnote.lineState]
  unfold State.acceptAnswer
  dsimp only
  split
  · exact attemptFails_discarded _ hs hd hi hyield hline
  · exact endExchange_discarded _ (hnote.exchange.trans hx) hs hd hyield hline

/-- An answer that suits its frame, under a CLEAR. -/
theorem exec_answer_discarded {answer : Answer} (hr : s.resetAsserted = false) (hx : s.exchange = some x)
    (hs : x.source ≠ .clearDismiss) (hd : x.discard = true) (hi : x.interruptTaken = true) (hy : s.yield = false)
    (hl : s.lineState = .busy ∨ s.lineState = .draining) (hp : x.phase = .command ∨ x.phase = .reply)
    (he : x.shape.expectsAnswer = true) (hsuits : answer.suits x.shape = true)
    (hz : unusedAreZero x.shape answer.payload = true) :
    exec (.responseFrame (answer.wire x.sentToggle) .recessive) s = .next (s.noteAnswer x.frame answer).clearFreed := by
  rw [exec_accepts hr hx he hp (judgeResponse_wire _ hsuits hz), acceptAnswer_discarded answer hx hs hd hi hy hl]

end

/-- Shapes that accept an ACK, or a WAIT and a REFUSE, expect an answer (R30). -/
theorem expectsAnswer_of_ack {shape : AnswerShape} {p : List Byte} (h : shape.acceptsAck p = true) :
    shape.expectsAnswer = true := by
  cases shape <;> simp_all [AnswerShape.acceptsAck, AnswerShape.expectsAnswer]

theorem expectsAnswer_of_waitRefuse {shape : AnswerShape} (h : shape.acceptsWaitRefuse = true) : shape.expectsAnswer = true := by
  cases shape <;> simp_all [AnswerShape.acceptsWaitRefuse, AnswerShape.expectsAnswer]

/-- WAIT and REFUSE carry no page. -/
theorem unusedAreZero_empty (shape : AnswerShape) : unusedAreZero shape [] = true := by
  cases shape with
  | page index => exact unusedAreZero_nil index
  | _ => rfl

/-- The entry facts of an ACK and of a REFUSE, off a DRAINING line (R17, R34, R107). -/
theorem answered_ack (line : LineState) (kind : FrameKind) (p : List Byte) (holdOff : Byte) (e : Entry) :
    e.answered line kind (.ack p) holdOff = { e with
      toggle := !e.toggle, misses := if kind = .poll ∧ e.state = .releasing then e.misses else 0 } := by
  simp [Entry.answered, keepsMisses]

theorem answered_refuse {line : LineState} {kind : FrameKind} {holdOff : Byte} {e : Entry} (reason : BitVec 4)
    (hl : line ≠ .draining) : e.answered line kind (.refuse reason) holdOff = { e with
      toggle := !e.toggle
      misses := if (kind = .poll ∧ e.state = .releasing) ∨ kind = .poll ∧ e.state = .lost then e.misses else 0 } := by
  have hkeep : keepsMisses line kind (.refuse reason) e = true ↔
      (kind = .poll ∧ e.state = .releasing) ∨ kind = .poll ∧ e.state = .lost := by
    simp [keepsMisses, hl, ← and_or_left, or_comm]
  simp only [Entry.answered, hkeep]

/-! ## The parts of the statement -/

/-- A CLEAR is taken in every line state (R170). -/
theorem exec_clear {s t : State} (ho : s.Open) (ht : s.clearTaken = t) :
    exec .clear s = .next { t with result := 0, resultArg := 0 } := by
  subst ht
  exact congrArg Host.Outcome.next (command_taken _ _ ho.1 ho.2)

/-- The CLEAR has begun: the run is dropped without a record (R68, R170). -/
def State.clearBegun (s : State) : State := { s.dropRun with clearing := true }

section
variable {s : State} {x : Exchange}

theorem markDiscard_exchange (hx : s.exchange = some x) :
    s.clearBegun.markDiscard.exchange = some { x with discard := true } := by
  show s.exchange.map _ = _
  rw [hx]
  rfl

theorem clearTaken_free (hl : s.lineState = .idle) : s.clearTaken = s.clearBegun := by
  rw [State.clearTaken, hl]
  rfl

theorem clearTaken_completes (hl : s.lineState = .busy ∨ s.lineState = .draining) (hx : s.exchange = some x)
    (hp : x.phase = .command ∨ x.phase = .reply ∨ x.phase = .response ∨ x.phase = .field) :
    s.clearTaken = { s.clearBegun with exchange := some { x with interruptTaken := true, discard := true } } := by
  have htaken : s.clearTaken = s.clearBegun.markDiscard.interrupt := by
    rcases hl with hl | hl <;> rw [State.clearTaken, hl] <;> rfl
  have hmarked := markDiscard_exchange hx
  rw [htaken, interrupt_completes hmarked hp]
  rfl

theorem clearTaken_ends (hl : s.lineState = .busy ∨ s.lineState = .draining) (hx : s.exchange = some x)
    (hp : x.phase = .retryGap ∨ x.phase = .lineCheck) (hs : x.source ≠ .clearDismiss) :
    s.clearTaken = s.clearBegun.clearFreed := by
  have htaken : s.clearTaken = s.clearBegun.markDiscard.interrupt := by
    rcases hl with hl | hl <;> rw [State.clearTaken, hl] <;> rfl
  have hmarked := markDiscard_exchange hx
  have hcompletes : x.phase.completes = false := by rcases hp with k | k <;> simp [k, Phase.completes]
  rw [htaken]
  simp only [State.interrupt, hmarked, hcompletes, Bool.false_eq_true, if_false]
  rw [endExchange_discarded _ rfl (by exact hs) rfl rfl (by exact hl), clearFreed_exchange]
  exact clearFreed_exchange s.clearBegun _

theorem clearTaken_empties (hl : s.lineState = .off ∨ s.lineState = .fault ∨ s.lineState = .recovering) :
    s.clearTaken = s.clearBegun.emptied := by
  rw [← finishClear_eq]
  rcases hl with hl | hl | hl <;> rw [State.clearTaken, hl] <;> rfl

/-- The answer of the CLEAR is given whatever the drain leaves. -/
theorem clearFreed_answered (s : State) : ({ s.clearFreed with result := 0, resultArg := 0 } : State) =
    ({ s with result := 0, resultArg := 0 } : State).clearFreed := by
  unfold State.clearFreed
  dsimp only
  split <;> rfl

/-- A fault under a CLEAR ends it: no run is left to end, and the negotiation goes with the roster (R166, R171). -/
theorem lineFault_clearing (kind : FaultKind) (hx : s.exchange = some x) (hc : s.censusState = .idle)
    (hd : x.discard = true ∨ x.source = .clearDismiss) : s.lineFault kind = ({ s with
      lineState := .fault, faultKind := kind, exchange := none, cause := s.cause ||| 0x08 } : State).emptied := by
  have hend : s.lineFault kind = State.finishClear (State.setCause .fault
      { ({ s with exchange := none } : State).withNegotiationAbandoned with lineState := .fault, faultKind := kind }) := by
    have hlost : ({ s with exchange := none } : State).loseLine =
        ({ s with exchange := none } : State).withNegotiationAbandoned := by
      rw [loseLine_eq, withRunLost_of_idle (s := { s with exchange := none }) hc]
    unfold State.lineFault
    rw [hx]
    dsimp only
    rw [if_pos (by simpa using hd), ← hlost]
    split
    · rfl
    · rename_i hnd
      rw [show ({ s with exchange := none } : State).handEnd x .faulted = { s with exchange := none } by
        simp [State.handEnd, hd.resolve_left hnd]]
  rw [hend, finishClear_eq]
  unfold State.withNegotiationAbandoned
  dsimp only
  cases s.negotiation with
  | none => rfl
  | some n =>
    unfold State.emptied
    cases s.commitPending <;> simp [State.setCause, Cause.bit, BitVec.or_assoc]

end

/-- Settles O43: the CLEAR as it is taken, the exchange that it drains, its DISMISS, and the faults under it. -/
theorem clearAndItsDismiss : Obligations.ClearAndItsDismiss := by
  unfold Obligations.ClearAndItsDismiss
  intro emptied freed
  refine ⟨fun s ho => ?_, fun s x hr hc hy hl hx hs hd hi => ?_, fun s x hr hc hy hl hx hs hshape hp hi => ?_,
    fun s x hr hc hcen hl hx hd => ?_, fun s mda hr hc hl => ?_⟩
  · intro begun
    refine ⟨fun hl => exec_clear ho (clearTaken_free hl), fun x hl hx => ⟨fun hp => ?_, fun hp hs => ?_⟩, fun hl => ?_⟩
    · exact exec_clear ho (clearTaken_completes hl hx hp)
    · rw [exec_clear ho (clearTaken_ends hl hx hp hs), clearFreed_answered]
      rfl
    · exact exec_clear ho (clearTaken_empties hl)
  · intro answer becomes polled
    have hanswer {ans : Answer} (hp : x.phase = .command ∨ x.phase = .reply) (he : x.shape.expectsAnswer = true)
        (hsuits : ans.suits x.shape = true) (hz : unusedAreZero x.shape ans.payload = true) :
        exec (answer ans) s = .next (s.noteAnswer x.frame ans).clearFreed :=
      exec_answer_discarded hr hx hs hd hi hy hl hp he hsuits hz
    refine ⟨fun c reason hf => ?_, fun hp => ⟨fun hshape => ?_, fun hshape => ?_, fun he => ?_⟩,
      fun hshape hp u check mda => ?_, fun hp => ⟨fun hshape hk => ?_, fun a data ha hack hlen hz => ?_, fun a ha hwr => ⟨?_, fun reason hreason => ?_⟩⟩⟩
    · rw [exec_failsBy hr hx hf, attemptFails_discarded reason hs hd hi hy hl]
      rfl
    · rw [exec_commandSent hr hx hp, commandTail_noAnswer hshape, endExchange_discarded _ hx hs hd hy hl]
      rfl
    · rw [exec_commandSent hr hx hp, commandTail_field hshape]
    · rw [exec_commandSent hr hx hp, commandTail_awaits he]
    · rw [exec_fieldEnd_interrupted u check mda hr hx hshape hp hi, endExchange_discarded _ hx hs hd hy hl]
      rfl
    · rw [hanswer hp (by simp [hshape, AnswerShape.expectsAnswer])
        (suits_ack (by simp) (by simp [hshape, AnswerShape.acceptsAck])) (by simp [hshape, unusedAreZero]), noteAnswer_plain (by simp [Frame.addressed, hk])]
      rfl
    · rw [hanswer hp (expectsAnswer_of_ack hack) (suits_ack hlen hack) hz, noteAnswer_addressed ha, answered_ack]
      rfl
    · rw [hanswer hp (expectsAnswer_of_waitRefuse hwr) (suits_wait hwr) (unusedAreZero_empty _), noteAnswer_addressed ha]
      rfl
    · rw [hanswer hp (expectsAnswer_of_waitRefuse hwr) (suits_refuse hreason hwr) (unusedAreZero_empty _),
        noteAnswer_addressed ha]
      rcases hl with hl | hl
      · rw [answered_refuse reason (by simp [hl])]
        rfl
      · exact congrArg Host.Outcome.next (clearFreed_setEntry a _ _ hl)
  · have hend (e : ExchangeEnd) {y : Exchange} (hys : y.source = .clearDismiss) :
        ({ s with exchange := some y } : State).endExchange e = emptied { s with lineState := .idle, exchange := none } := by
      rw [endExchange_clearDismiss e rfl hys]
      exact (congrArg State.finishClear (lineFreed_noYield hl hy)).trans (finishClear_eq _)
    refine ⟨?_, fun hu => ?_⟩
    · rw [exec_commandSent hr hx hp, commandTail_noAnswer hshape, ← hend .sent hs, ← hx]
    · rw [exec_failsBy hr hx (.inl ⟨rfl, rfl, hp⟩), State.attemptFails, if_neg (by simp [hi]), if_neg (Nat.not_lt.mpr hu)]
      exact congrArg Host.Outcome.next (hend _ (y := { x with lastFailure := some .contention }) hs)
  · obtain ⟨hstuck, hclock⟩ := exec_faults hr hx hl
    refine ⟨fun hp => ?_, fun hp => ?_⟩
    · rw [hstuck hp, lineFault_clearing .stuck hx hcen hd]
      rfl
    · rw [hclock hp, lineFault_clearing .clock hx hcen hd]
      rfl
  · have hexec : exec (.clearDismiss mda) s = .next (s.openExchange
        (newExchange .clearDismiss (allCallFrame .dismiss) .noAnswer s.attemptsAllowed) mda) := by
      show Host.Outcome.next (s.unlessReset _) = _
      rw [unlessReset_released hr, if_pos ⟨hl, hc⟩]
    rw [hexec, openExchange_new mda (by simp [allCallFrame]) (by simp) rfl]
    rfl

end Sys2Proof.Machine
end

section
/-! PROOF. The formats of command frames and of responses (O50). -/

namespace Sys2Proof.Machine

/-! ## Command frames -/

/-- The address byte of a command frame (R192). -/
theorem addressField_bits (f : Frame) : f.addressField.getLsbD 7 = f.toggle ∧ f.addressField &&& 0x60 = 0 ∧
    (f.addressField &&& 0x1F).toNat = match f.address with | none => 0 | some a => a.number := by
  have hsome : ∀ (toggle : Bool) (a : Addr), (flagBit 7 toggle ||| addressByte (some a)).getLsbD 7 = toggle ∧
      (flagBit 7 toggle ||| addressByte (some a)) &&& 0x60 = 0 ∧
      ((flagBit 7 toggle ||| addressByte (some a)) &&& 0x1F).toNat = a.number := by decide
  have hnone : ∀ toggle : Bool, (flagBit 7 toggle ||| addressByte none).getLsbD 7 = toggle ∧
      (flagBit 7 toggle ||| addressByte none) &&& 0x60 = 0 ∧
      ((flagBit 7 toggle ||| addressByte none) &&& 0x1F).toNat = 0 := by decide
  unfold Frame.addressField
  cases f.address with
  | none => exact hnone f.toggle
  | some a => exact hsome f.toggle a

/-- The kind byte of a command frame (R192). -/
theorem kindField_bits (f : Frame) : f.kindField.getLsbD 4 = f.ackFlag ∧ f.kindField &&& 0xE0 = 0 ∧
    f.kindField &&& 0x0F = f.kind.code := by
  unfold Frame.kindField
  cases f.ackFlag <;> cases f.kind <;> decide

/-! ## The bytes of a response as they are read -/

/-- The two lowest bits of a byte. -/
theorem lowBits_iff (b : Byte) : (b.extractLsb' 0 2 = 1 ↔ b &&& 0x03 = 1) ∧ (b.extractLsb' 0 2 = 2 ↔ b &&& 0x03 = 2) ∧
    (b.extractLsb' 0 2 = 3 ↔ b &&& 0x03 = 3) := by
  revert b
  decide

theorem carriesPage_iff {index : Nat} {wire : List Byte} :
    carriesPage (.page index) wire = true ↔ wireByte wire 0 &&& 0x03 = 1 ∧ wireByte wire 1 = 3 := by
  rw [← (lowBits_iff _).1]
  simp [carriesPage]

/-- The low byte of a node page, by the kind of its word (R73, R192). -/
theorem readByte_pageKind {shape : AnswerShape} {wire : List Byte} (h : carriesPage shape wire = true) :
    readByte shape wire 3 = match pageKind (wireByte wire 2 ++ wireByte wire 3) with
      | .base => wireByte wire 3 &&& 0xF0
      | .message => wireByte wire 3 &&& 0xF8
      | .plain | .invalid => wireByte wire 3 := by
  rw [readByte_page h, pageUnused]
  show _ &&& ~~~(match pageKind (wireByte wire 2 ++ wireByte wire 3) with
    | .base => (0x000F : PageWord) | .message => 0x0007 | .plain | .invalid => 0).extractLsb' 0 8 = _
  have hall (b : Byte) : b &&& ~~~((0 : PageWord).extractLsb' 0 8) = b := by
    revert b
    decide
  cases pageKind (wireByte wire 2 ++ wireByte wire 3) with
  | base => rfl
  | message => rfl
  | plain => exact hall _
  | invalid => exact hall _

/-- Whether a response carries a node page, by its first two bytes as they are sampled (R30, R192). -/
theorem carriesPage_eq (shape : AnswerShape) (wire : List Byte) : carriesPage shape wire = match shape with
    | .page _ => decide (wireByte wire 0 &&& 0x03 = 1 ∧ wireByte wire 1 = 3)
    | _ => false := by
  cases shape with
  | page index => rw [Bool.eq_iff_iff, carriesPage_iff, decide_eq_true_iff]
  | _ => rfl

/-- Byte k of a response as it is judged (R73, R192; log 29). -/
theorem readByte_eq (shape : AnswerShape) (wire : List Byte) (k : Nat) : readByte shape wire k =
    if k = 0 then wireByte wire 0 &&& 0xBF
    else if carriesPage shape wire = true ∧ k = 3 then match pageKind (wireByte wire 2 ++ wireByte wire 3) with
      | .base => wireByte wire 3 &&& 0xF0
      | .message => wireByte wire 3 &&& 0xF8
      | .plain | .invalid => wireByte wire 3
    else wireByte wire k := by
  split
  · rename_i h0
    subst h0
    exact congrArg (wireByte wire 0 &&& ·) (by decide : ~~~(0x40 : Byte) = 0xBF)
  rename_i h0
  split
  · rename_i h
    obtain ⟨hpage, rfl⟩ := h
    exact readByte_pageKind hpage
  · rename_i h
    exact readByte_plain h0 fun h3 => Bool.eq_false_of_not_eq_true fun hpage => h ⟨hpage, h3⟩

/-! ## The shape of an answer -/

section
variable {shape : AnswerShape} {r : Response}

theorem shaped_ack (ht : r.tail = .recessive) (h : r.status = 1 ∧ r.reason = 0 ∧ shape.acceptsAck r.payload = true) :
    r.shaped shape = some (.ack r.payload) := by
  obtain ⟨hs, hr, ha⟩ := h
  simp [Response.shaped, ht, hs, hr, ha]

theorem shaped_wait (ht : r.tail = .recessive)
    (h : r.status = 2 ∧ r.reason = 0 ∧ r.length = 0 ∧ shape.acceptsWaitRefuse = true) : r.shaped shape = some .wait := by
  obtain ⟨hs, hr, hl, ha⟩ := h
  simp [Response.shaped, ht, hs, hr, hl, ha]

theorem shaped_refuse (ht : r.tail = .recessive)
    (h : r.status = 3 ∧ r.reason ≠ 0 ∧ r.length = 0 ∧ shape.acceptsWaitRefuse = true) :
    r.shaped shape = some (.refuse r.reason) := by
  obtain ⟨hs, hr, hl, ha⟩ := h
  simp [Response.shaped, ht, hs, show ¬r.reason = 0#4 from hr, hl, ha]

/-- No other response is inside the shape (R40). -/
theorem shaped_none (h : r.tail = .dominant ∨ ¬(r.status = 1 ∧ r.reason = 0 ∧ shape.acceptsAck r.payload = true) ∧
    ¬(r.status = 2 ∧ r.reason = 0 ∧ r.length = 0 ∧ shape.acceptsWaitRefuse = true) ∧
    ¬(r.status = 3 ∧ r.reason ≠ 0 ∧ r.length = 0 ∧ shape.acceptsWaitRefuse = true)) : r.shaped shape = none := by
  unfold Response.shaped
  split
  · rfl
  rename_i ht
  obtain ⟨hack, hwait, hrefuse⟩ := h.resolve_left ht
  split
  · rename_i hs
    exact if_neg fun k => hack ⟨hs, by simpa using k⟩
  split
  · rename_i hs
    exact if_neg fun k => hwait ⟨hs, by simpa [and_assoc] using k⟩
  split
  · rename_i hs
    exact if_neg fun k => hrefuse ⟨hs, by simpa [and_assoc] using k⟩
  · rfl

end

/-- A condition code that is known (R103). -/
theorem ofCode?_isSome (b : Byte) : (Condition.ofCode? b).isSome = true ↔ b ≤ 2 := by
  revert b
  decide

/-- Whether the payload that a response carries is inside its kind's shape (R30, R40). -/
theorem acceptsAck_iff (shape : AnswerShape) (wire : List Byte) (length : Nat) :
    shape.acceptsAck ((List.range length).map fun k => readByte shape wire (k + 2)) = true ↔ match shape with
      | .noAnswer | .field => False
      | .claim | .release => length = 0
      | .page index => length = 3 ∧ wireByte wire 4 = BitVec.ofNat 8 index
      | .poll => length = 2 ∧ wireByte wire 3 ≤ 2
      | .write confirm => length = if confirm then 1 else 0
      | .read wanted => length ≤ wanted := by
  cases shape with
  | page index =>
    simp only [AnswerShape.acceptsAck, Bool.and_eq_true, beq_iff_eq, List.length_map, List.length_range]
    refine and_congr_right fun hl => ?_
    subst hl
    rw [← readByte_plain (shape := .page index) (wire := wire) (k := 4) (by decide) (by simp)]
    rfl
  | poll =>
    simp only [AnswerShape.acceptsAck, Bool.and_eq_true, beq_iff_eq, List.length_map, List.length_range, ofCode?_isSome]
    refine and_congr_right fun hl => ?_
    subst hl
    rw [← readByte_plain (shape := .poll) (wire := wire) (k := 3) (by decide) (fun _ => rfl)]
    rfl
  | _ => simp [AnswerShape.acceptsAck]

theorem acceptsWaitRefuse_iff (shape : AnswerShape) : shape.acceptsWaitRefuse = true ↔
    shape ≠ .noAnswer ∧ shape ≠ .field ∧ shape ≠ .claim := by
  cases shape <;> simp [AnswerShape.acceptsWaitRefuse]

/-! ## The tests of a response -/

section
variable (shape : AnswerShape) (toggle : Bool) (wire : List Byte) (tail : Level)

/-- The length byte is read as it is sampled. -/
theorem ofWire_length : (Response.ofWire shape wire tail).length = (wireByte wire 1).toNat :=
  congrArg BitVec.toNat (readByte_plain Nat.one_ne_zero (by simp))

theorem computedCheck_eq : Response.computedCheck shape wire =
    checkByte ((List.range ((wireByte wire 1).toNat + 2)).map (readByte shape wire)) := by
  rw [Response.computedCheck, readByte_plain (k := 1) Nat.one_ne_zero (by simp)]

theorem ofWire_payload (h : (wireByte wire 1).toNat ≤ 16) : (Response.ofWire shape wire tail).payload =
    (List.range (wireByte wire 1).toNat).map fun k => readByte shape wire (k + 2) := by
  rw [← ofWire_length shape wire tail] at h ⊢
  exact if_pos h

/-- The tests of R38 in their order. -/
theorem judgeResponse_eq : judgeResponse shape toggle wire tail =
    if 16 < (wireByte wire 1).toNat then .error .malformed
    else if wireByte wire ((wireByte wire 1).toNat + 2) ≠
        checkByte ((List.range ((wireByte wire 1).toNat + 2)).map (readByte shape wire)) then .error .check
    else if (readByte shape wire 0).getLsbD 7 ≠ toggle then .error .sequence
    else match (Response.ofWire shape wire tail).shaped shape with
      | some answer => .ok answer
      | none => .error .malformed := by
  have hcheck : (Response.ofWire shape wire tail).check = wireByte wire ((wireByte wire 1).toNat + 2) := by
    rw [← ofWire_length shape wire tail]
    rfl
  unfold judgeResponse
  dsimp only
  rw [ofWire_length, hcheck, computedCheck_eq]
  simp only [bne_iff_ne]
  rfl

end

set_option maxRecDepth 20000 in
/-- The check byte of the nine digits (R29). -/
theorem checkByte_digits : checkByte [0x31, 0x32, 0x33, 0x34, 0x35, 0x36, 0x37, 0x38, 0x39] = 0xF7 := by decide

/-- Settles O50: the frames by their fields, and a response by the tests of R38 on its bytes as they are read. -/
theorem frameFormats : Obligations.FrameFormats := by
  refine ⟨by decide, checkByte_digits, fun f => ?_, fun shape toggle wire tail => ?_⟩
  · obtain ⟨htoggle, hunused, haddress⟩ := addressField_bits f
    obtain ⟨hack, hflags, hkind⟩ := kindField_bits f
    refine ⟨f.addressField, f.kindField, rfl, htoggle, hunused, haddress, hack, hflags, hkind.trans ?_⟩
    cases f.kind <;> rfl
  · intro raw page read status length check computed
    have hread : readByte shape wire = read := by
      funext k
      rw [readByte_eq, carriesPage_eq]
      rfl
    have hjudge := judgeResponse_eq shape toggle wire tail
    rw [hread] at hjudge
    refine ⟨fun hlong => hjudge.trans (if_pos hlong), fun hshort => ?_⟩
    replace hjudge := hjudge.trans (if_neg (Nat.not_lt.mpr hshort))
    refine ⟨fun hc => hjudge.trans (if_pos hc), fun hc => ?_⟩
    replace hjudge := hjudge.trans (if_neg (not_not.mpr hc))
    refine ⟨fun ht => hjudge.trans (if_pos ht), fun ht => ?_⟩
    replace hjudge := hjudge.trans (if_neg (not_not.mpr ht))
    intro code reason fits addressed ack wait refuse
    have hpayload : (Response.ofWire shape wire tail).payload = (List.range length).map fun k => read (k + 2) := by
      rw [ofWire_payload shape wire tail hshort, hread]
      rfl
    have hlength : (Response.ofWire shape wire tail).length = length := ofWire_length shape wire tail
    have hstatus : (Response.ofWire shape wire tail).status = status.extractLsb' 0 2 :=
      congrArg (fun byteAt : Nat → Byte => (byteAt 0).extractLsb' 0 2) hread
    have hreason : (Response.ofWire shape wire tail).reason = reason :=
      congrArg (fun byteAt : Nat → Byte => (byteAt 0).extractLsb' 2 4) hread
    obtain ⟨hone, htwo, hthree⟩ := lowBits_iff status
    have hfits : shape.acceptsAck (Response.ofWire shape wire tail).payload = true ↔ fits := by
      rw [hpayload, ← hread, acceptsAck_iff]
      rfl
    have hack : (Response.ofWire shape wire tail).status = 1 ∧ (Response.ofWire shape wire tail).reason = 0 ∧
        shape.acceptsAck (Response.ofWire shape wire tail).payload = true ↔ ack := by
      rw [hfits, hstatus, hreason, hone]
    have hwait : (Response.ofWire shape wire tail).status = 2 ∧ (Response.ofWire shape wire tail).reason = 0 ∧
        (Response.ofWire shape wire tail).length = 0 ∧ shape.acceptsWaitRefuse = true ↔ wait := by
      rw [hstatus, hreason, hlength, htwo, acceptsWaitRefuse_iff]
    have hrefuse : (Response.ofWire shape wire tail).status = 3 ∧ (Response.ofWire shape wire tail).reason ≠ 0 ∧
        (Response.ofWire shape wire tail).length = 0 ∧ shape.acceptsWaitRefuse = true ↔ refuse := by
      rw [hstatus, hreason, hlength, hthree, acceptsWaitRefuse_iff]
    refine ⟨fun h => ?_, fun htail => ⟨fun h => ?_, fun h => ?_, fun h => ?_⟩⟩
    · rw [← hack, ← hwait, ← hrefuse] at h
      rw [hjudge, shaped_none h]
    · rw [hjudge, shaped_ack htail (hack.mpr h), hpayload]
    · rw [hjudge, shaped_wait htail (hwait.mpr h)]
    · rw [hjudge, shaped_refuse htail (hrefuse.mpr h), hreason]

end Sys2Proof.Machine
end

section
/-! PROOF. The census commands: CENSUS START (O8) and CENSUS STOP (O9), and the auto-census timer (O14). -/

namespace Sys2Proof.Machine

/-! ## Where a run starts -/

/-- A run is active exactly where the census unit is not idle (R53). -/
theorem runActive_iff {s : State} : s.runActive = true ↔ s.censusState ≠ .idle := by
  simp [State.runActive]

theorem runActive_of_idle {s : State} (h : s.censusState = .idle) : s.runActive = false := by
  simp [State.runActive, h]

/-- The roster counts an entry that is not FREE (R4). -/
theorem rosterCount_ne_zero {s : State} : s.rosterCount ≠ 0 ↔ ∃ a : Addr, (s.entry a).state ≠ .free := by
  simp [State.rosterCount, Addr.all]

/-- A run that starts between rounds (R54, R72). -/
theorem startRun_eq {s : State} (fresh : Bool) (h : s.round = none) : s.startRun fresh = { s with
    censusState := .running, claims := 0, failures := 0, yield := false, dismissOwed := fresh, autoTimer := none } := by
  rw [State.startRun, ← h]

/-! ## CENSUS START -/

/-- The refusal that a CENSUS START meets first (R54). -/
def State.startRefusal (s : State) : Option ResultCode := firstRefusal
  [ (s.lineState == .off || s.lineState == .draining, .lineOff),
    (s.lineState == .fault || s.lineState == .recovering, .lineFault),
    (s.runActive, .censusRunning),
    (s.args[0].getLsbD 0 && s.rosterCount != 0, .rosterNotEmpty) ]

theorem exec_censusStart (s : State) :
    exec .censusStart s = .next (s.command s.startRefusal (s.startRun (s.args[0].getLsbD 0))) := rfl

theorem startRefusal_off {s : State} (h : s.lineState = .off ∨ s.lineState = .draining) :
    s.startRefusal = some .lineOff := by
  rcases h with h | h <;> simp [State.startRefusal, h, firstRefusal]

theorem startRefusal_fault {s : State} (h : s.lineState = .fault ∨ s.lineState = .recovering) :
    s.startRefusal = some .lineFault := by
  rcases h with h | h <;> simp [State.startRefusal, h, firstRefusal]

/-- On a line that works, the run and the roster decide. -/
theorem startRefusal_online {s : State} (h : s.lineState = .idle ∨ s.lineState = .busy) : s.startRefusal =
    if s.runActive then some .censusRunning
    else if s.args[0].getLsbD 0 && s.rosterCount != 0 then some .rosterNotEmpty else none := by
  rcases h with h | h <;> simp [State.startRefusal, h, firstRefusal]

/-- A CENSUS START that meets a refusal changes RESULT and RESULTARG alone (R54, R177). -/
theorem refuses_censusStart {s : State} {r : ResultCode} (h : s.Open) (hr : s.startRefusal = some r) :
    Refuses .censusStart s r.code :=
  refuses_of_command h (hr ▸ exec_censusStart s)

/-- Settles O8: the refusal that CENSUS START meets first, by the line, the run and the roster, or the run of a taken
one. -/
theorem censusStartChecksAndRun : Obligations.CensusStartChecksAndRun := by
  refine fun s h => ⟨fun hl => refuses_censusStart h (startRefusal_off hl),
    fun hl => refuses_censusStart h (startRefusal_fault hl), fun hl =>
      ⟨fun hc => ?_, fun hc hf hn => ?_, fun hc hr hf => ?_⟩⟩
  · exact refuses_censusStart h (by rw [startRefusal_online hl, if_pos (runActive_iff.mpr hc)])
  · have hcount := rosterCount_ne_zero.mpr hn
    have hrefused : s.startRefusal = some .rosterNotEmpty := by
      simp [startRefusal_online hl, runActive_of_idle hc, hf, hcount]
    exact refuses_censusStart h hrefused
  · have hcount : s.args[0].getLsbD 0 = true → s.rosterCount = 0 := fun ha => by
      by_contra hne
      obtain ⟨a, hstate⟩ := rosterCount_ne_zero.mp hne
      exact hstate (hf ha a)
    have hnone : s.startRefusal = none := by
      simpa [startRefusal_online hl, runActive_of_idle hc] using hcount
    rw [exec_censusStart, hnone, command_taken _ _ h.1 h.2, startRun_eq _ hr]
    rfl

/-! ## CENSUS STOP -/

theorem exec_censusStop_idle {s : State} (h : s.censusState = .idle) :
    exec .censusStop s = .next (s.command (some .censusIdle) s.stopRun) := by
  simp [exec, execCensusStop, runActive_of_idle h, firstRefusal]

/-- A CENSUS STOP is taken while a run is active (R64). -/
theorem exec_censusStop_active {s : State} (h : s.Open) (hc : s.censusState ≠ .idle) :
    exec .censusStop s = .next (s.stopRun.answer .ok 0) := by
  simp [exec, execCensusStop, runActive_iff.mpr hc, firstRefusal, command_taken _ _ h.1 h.2]

theorem stopRun_stopping {s : State} (h : s.censusState = .stopping) : s.stopRun = s := by
  simp [State.stopRun, h]

theorem stopRun_inRound {s : State} {r : Round} (h : s.censusState = .running) (hr : s.round = some r) :
    s.stopRun = { s with censusState := .stopping } := by
  simp [State.stopRun, h, hr]

/-- Between rounds a STOP ends the run at once (R64, R70). -/
theorem stopRun_betweenRounds {s : State} (h : s.censusState = .running) (hr : s.round = none) :
    s.stopRun = s.withRunEnded .stopped 0 := by
  simp [State.stopRun, h, hr, endRun_eq]

/-- Settles O9: the refusal of an idle census unit, and what a taken STOP does by the census state and the round. -/
theorem censusStopByRun : Obligations.CensusStopByRun := by
  refine fun s h => ⟨fun hc => refuses_of_command h (exec_censusStop_idle hc), fun hc => ?_, fun r hc hr => ?_,
    fun hc hr => ?_⟩
  · rw [exec_censusStop_active h (by simp [hc]), stopRun_stopping hc]
    rfl
  · rw [exec_censusStop_active h (by simp [hc]), stopRun_inRound hc hr]
    rfl
  · rw [exec_censusStop_active h (by simp [hc]), stopRun_betweenRounds hc hr]
    rfl

/-! ## The auto-census timer -/

theorem exec_autocensusWrite {s : State} (v : Byte) (h : s.Running) :
    exec (.autocensusWrite v) s = .next (s.writeAutoCensus v) :=
  congrArg Host.Outcome.next (unlessReset_released h)

/-- The timer counts on a line that works while no run is active and no CLEAR is in progress (R71). -/
theorem autoCounting_of_idle {s : State} (h : s.Open) (hl : s.lineState = .idle ∨ s.lineState = .busy)
    (hc : s.censusState = .idle) : s.autoCounting = true := by
  rcases hl with hl | hl <;> simp [State.autoCounting, hl, runActive_of_idle hc, h.2]

/-- A timer that counts starts a run without FRESH when it expires (R72). -/
theorem exec_autoCensusExpiry {s : State} {n : Nat} (h : s.Running) (hc : s.autoCounting = true)
    (ht : s.autoTimer = some n) : exec .autoCensusExpiry s = .next (s.startRun false) := by
  simp [exec, execAutoCensusExpiry, unlessReset_released h, hc, ht]

/-- Settles O14: the write restarts the timer, and the expiry of one that counts starts a run. -/
theorem autoCensusTimerAndExpiry : Obligations.AutoCensusTimerAndExpiry := by
  refine ⟨fun v s h => exec_autocensusWrite v h, fun n s h hl hc ht hr => ?_⟩
  rw [exec_autoCensusExpiry h.1 (autoCounting_of_idle h hl hc) ht, startRun_eq false hr]

end Sys2Proof.Machine
end

section
/-! PROOF. The arbitration field: slot by slot the lowest unit number wins (O52). -/

namespace Sys2Proof.Machine

/-! ## One slot -/

/-- The low bits of a unit number, from the bit of one slot and the bits below it. -/
theorem lowBits_succ (u : UnitNumber) (n : Nat) :
    u.toNat % 2 ^ (n + 1) = (if u.getLsbD n then 2 ^ n else 0) + u.toNat % 2 ^ n := by
  rw [Nat.mod_pow_succ, ← Nat.toNat_testBit, BitVec.testBit_toNat, Nat.add_comm]
  cases u.getLsbD n <;> simp

/-- Two numbers agree in the low bits where they agree in one bit and in those below it. -/
theorem sameLowBits_succ (u v : UnitNumber) (n : Nat) :
    (v.toNat % 2 ^ n == u.toNat % 2 ^ n && v.getLsbD n == u.getLsbD n) =
      (v.toNat % 2 ^ (n + 1) == u.toNat % 2 ^ (n + 1)) := by
  have hv := Nat.mod_lt v.toNat (Nat.two_pow_pos n)
  have hu := Nat.mod_lt u.toNat (Nat.two_pow_pos n)
  rw [lowBits_succ u, lowBits_succ v, Bool.eq_iff_iff]
  cases v.getLsbD n <;> cases u.getLsbD n <;> simp <;> omega

/-- The bit of a lowest number is 1 only where that of every number is. -/
theorem getLsbD_of_lowest {u v : UnitNumber} {n : Nat} (h : u.toNat % 2 ^ (n + 1) ≤ v.toNat % 2 ^ (n + 1))
    (hu : u.getLsbD n = true) : v.getLsbD n = true := by
  by_contra hv
  rw [lowBits_succ u, lowBits_succ v, if_pos hu, if_neg hv] at h
  have := Nat.mod_lt v.toNat (Nat.two_pow_pos n)
  omega

/-- A slot reads the bit of the lowest number, and those with another bit drop out (R58). -/
theorem arbitrationSlot_lowest {units : List UnitNumber} {u : UnitNumber} {n : Nat} (hu : u ∈ units)
    (hmin : ∀ v ∈ units, u.toNat % 2 ^ (n + 1) ≤ v.toNat % 2 ^ (n + 1)) :
    arbitrationSlot n units = (u.getLsbD n, units.filter fun v => v.getLsbD n == u.getLsbD n) := by
  have hlevel : wiredAnd (units.map fun v => v.getLsbD n) = u.getLsbD n := by
    rw [wiredAnd, Bool.eq_iff_iff]
    simp only [List.all_map, List.all_eq_true]
    exact ⟨fun h => h u hu, fun hbit v hv => getLsbD_of_lowest (hmin v hv) hbit⟩
  rw [arbitrationSlot, hlevel]

/-! ## All slots -/

/-- The slots read the low bits of a lowest number, and those that hold the same low bits drive them all (R58). -/
theorem arbitrate_lowest {units : List UnitNumber} {u : UnitNumber} (n : Nat) (hu : u ∈ units)
    (hmin : ∀ v ∈ units, u.toNat % 2 ^ n ≤ v.toNat % 2 ^ n) :
    arbitrate n units = (u.toNat % 2 ^ n, units.filter fun v => v.toNat % 2 ^ n == u.toNat % 2 ^ n) := by
  induction n generalizing units with
  | zero => simp [arbitrate, Nat.mod_one]
  | succ n ih =>
    have hstays : u ∈ units.filter fun v => v.getLsbD n == u.getLsbD n := List.mem_filter.mpr ⟨hu, beq_self_eq_true _⟩
    have hrest : ∀ v ∈ units.filter fun v => v.getLsbD n == u.getLsbD n, u.toNat % 2 ^ n ≤ v.toNat % 2 ^ n := by
      intro v hv
      obtain ⟨hv, hbit⟩ := List.mem_filter.mp hv
      have h := hmin v hv
      rw [lowBits_succ u, lowBits_succ v, beq_iff_eq.mp hbit] at h
      exact Nat.le_of_add_le_add_left h
    rw [arbitrate, arbitrationSlot_lowest hu hmin]
    simp only [ih hstays hrest, List.filter_filter, sameLowBits_succ, ← lowBits_succ u]

/-- With no node every slot reads 1 (R59). -/
theorem arbitrate_nil (n : Nat) : arbitrate n [] = (2 ^ n - 1, []) := by
  induction n with
  | zero => rfl
  | succ n ih =>
    have := Nat.two_pow_pos n
    simp only [arbitrate, arbitrationSlot, wiredAnd, List.map_nil, List.all_nil, if_true, List.filter_nil, ih,
      Prod.mk.injEq, and_true]
    omega

/-- The 40 slots read the lowest unit number, which is the one that drove them all (R58). -/
theorem arbitrate_field {units : List UnitNumber} {u : UnitNumber} (hu : u ∈ units) (hmin : ∀ v ∈ units, u ≤ v) :
    arbitrate 40 units = (u.toNat, units.filter fun v => v == u) := by
  have hlow (v : UnitNumber) : v.toNat % 2 ^ 40 = v.toNat := Nat.mod_eq_of_lt v.isLt
  have hsame (v : UnitNumber) : (v.toNat == u.toNat) = (v == u) := by
    rw [Bool.eq_iff_iff, beq_iff_eq, beq_iff_eq, BitVec.toNat_inj]
  simp only [arbitrate_lowest 40 hu fun v hv => by rw [hlow, hlow]; exact hmin v hv, hlow, hsame]

/-- Settles O52: the level of every slot is the lowest unit number's bit, so that one is read and drives the check byte. -/
theorem lowestUnitWinsTheField : Obligations.LowestUnitWinsTheField := by
  refine ⟨?_, fun units u hu hmin => ⟨?_, ?_⟩⟩
  · rw [fieldUnit, arbitrate_nil]
    rfl
  · rw [fieldUnit, arbitrate_field hu hmin, BitVec.ofNat_toNat, BitVec.setWidth_eq]
  · have hwins : u ∈ units.filter fun v => v == u := List.mem_filter.mpr ⟨hu, beq_self_eq_true u⟩
    rw [fieldCheck, arbitrate_field hu hmin]
    cases hf : units.filter fun v => v == u with
    | nil => simp [hf] at hwins
    | cons w rest =>
      have hw : w ∈ units.filter fun v => v == u := hf ▸ List.mem_cons_self
      rw [beq_iff_eq.mp (List.mem_filter.mp hw).2]

end Sys2Proof.Machine
end


section
/-! PROOF. COMMIT OFFER: the validity of the shadow in the words of R92 (O30), and what a taken one does (O29). -/

namespace Sys2Proof.Machine

/-! ## The PLAIN pages that are due -/

/-- Position k of the n pages `w` must hold a PLAIN page (R92): it is one of `owed` due from the start, or one of those that
an earlier MESSAGE announces. -/
def PlainDue (w : Nat → PageWord) (n owed k : Nat) : Prop :=
  k < owed ∨ ∃ m < n, m < k ∧ pageKind (w m) = .message ∧ k ≤ m + pagePlains (w m)

/-- The PLAIN pages that are due behind a page in front of which `owed` were due. -/
def owedAfter (owed : Nat) (p : PageWord) : Nat :=
  match pageKind p with
  | .plain => owed - 1
  | .message => pagePlains p
  | .base | .invalid => 0

section
variable {w : Nat → PageWord} {n owed k : Nat}

/-- A list is judged by its first page and by what is due behind it. -/
theorem plainsMatch_cons (p : PageWord) (rest : List PageWord) : plainsMatch owed (p :: rest) = true ↔
    pageKind p ≠ .invalid ∧ (0 < owed ↔ pageKind p = .plain) ∧ plainsMatch (owedAfter owed p) rest = true := by
  cases h : pageKind p <;> simp [plainsMatch, owedAfter, h, Nat.pos_iff_ne_zero]

/-- The first page can be due from the start only. -/
theorem plainDue_zero : PlainDue w n owed 0 ↔ 0 < owed := by simp [PlainDue]

theorem plainDue_noPages : PlainDue w 0 owed k ↔ k < owed := by simp [PlainDue]

/-- What is due behind the first page, where that page is PLAIN exactly if one was due. -/
theorem plainDue_succ (h : 0 < owed ↔ pageKind (w 0) = .plain) :
    PlainDue w (n + 1) owed (k + 1) ↔ PlainDue (fun i => w (i + 1)) n (owedAfter owed (w 0)) k := by
  have hfirst : (k + 1 < owed ∨ pageKind (w 0) = .message ∧ k + 1 ≤ pagePlains (w 0)) ↔ k < owedAfter owed (w 0) := by
    cases hk : pageKind (w 0) <;> simp [hk, owedAfter] at h ⊢ <;> omega
  have hlater (m : Nat) : k + 1 ≤ m + 1 + pagePlains (w (m + 1)) ↔ k ≤ m + pagePlains (w (m + 1)) := by omega
  rw [PlainDue, PlainDue, ← hfirst, Nat.exists_lt_succ_left]
  simp only [Nat.zero_lt_succ, true_and, Nat.zero_add, Nat.add_lt_add_iff_right, hlater, or_assoc]

/-- The PLAIN pages stand exactly where they are due. -/
theorem plainsMatch_iff : plainsMatch owed ((List.range n).map w) = true ↔
    (∀ k < n, pageKind (w k) ≠ .invalid) ∧ ∀ k, PlainDue w n owed k ↔ k < n ∧ pageKind (w k) = .plain := by
  induction n generalizing owed w with
  | zero =>
    simp only [List.range_zero, List.map_nil, plainsMatch, plainDue_noPages, Nat.not_lt_zero, false_and, iff_false,
      false_implies, implies_true, true_and, beq_iff_eq]
    exact ⟨fun h k => h ▸ Nat.not_lt_zero k, fun h => Nat.eq_zero_of_not_pos (h 0)⟩
  | succ n ih =>
    rw [List.range_succ_eq_map, List.map_cons, List.map_map, plainsMatch_cons, ih, Nat.forall_lt_succ_left,
      ← Nat.and_forall_add_one (p := fun k => PlainDue w (n + 1) owed k ↔ _), plainDue_zero]
    simp only [Nat.zero_lt_succ, true_and, Nat.add_lt_add_iff_right, Function.comp_def, Nat.succ_eq_add_one]
    constructor
    · rintro ⟨hvalid, hfirst, hrest, hdue⟩
      exact ⟨⟨hvalid, hrest⟩, hfirst, fun k => (plainDue_succ hfirst).trans (hdue k)⟩
    · rintro ⟨⟨hvalid, hrest⟩, hfirst, hdue⟩
      exact ⟨hvalid, hfirst, hrest, fun k => (plainDue_succ hfirst).symm.trans (hdue k)⟩

/-- In the words of R92: exactly the announced PLAIN pages follow every MESSAGE, and every PLAIN page follows one. -/
theorem plainDue_iff_plain : (∀ k, PlainDue w n 0 k ↔ k < n ∧ pageKind (w k) = .plain) ↔
    (∀ k < n, pageKind (w k) = .message →
      (∀ j, 1 ≤ j → j ≤ pagePlains (w k) → k + j < n ∧ pageKind (w (k + j)) = .plain) ∧
      (k + pagePlains (w k) + 1 < n → pageKind (w (k + pagePlains (w k) + 1)) ≠ .plain)) ∧
    (∀ k < n, pageKind (w k) = .plain → ∃ m < k, pageKind (w m) = .message ∧ k ≤ m + pagePlains (w m)) := by
  constructor
  · refine fun h => ⟨fun k hk hmsg => ⟨fun j hj hle => ?_, fun hlt hplain => ?_⟩, fun k hk hplain => ?_⟩
    · exact (h _).mp (.inr ⟨k, hk, by omega, hmsg, by omega⟩)
    · obtain hnone | ⟨m, hm, hbefore, hmsg', hreach⟩ := (h _).mpr ⟨hlt, hplain⟩
      · omega
      rcases Nat.lt_trichotomy m k with hmk | rfl | hmk
      · have := ((h k).mp (.inr ⟨m, hm, hmk, hmsg', by omega⟩)).2
        simp [hmsg] at this
      · omega
      · have := ((h m).mp (.inr ⟨k, hk, hmk, hmsg, by omega⟩)).2
        simp [hmsg'] at this
    · obtain hnone | ⟨m, -, hm⟩ := (h k).mpr ⟨hk, hplain⟩
      · omega
      · exact ⟨m, hm⟩
  · rintro ⟨hfollow, hbelong⟩ k
    constructor
    · rintro (hnone | ⟨m, hm, hmk, hmsg, hreach⟩)
      · omega
      · have := (hfollow m hm hmsg).1 (k - m) (by omega) (by omega)
        rwa [Nat.add_sub_cancel' hmk.le] at this
    · rintro ⟨hk, hplain⟩
      obtain ⟨m, hmk, hm⟩ := hbelong k hk hplain
      exact .inr ⟨m, hmk.trans hk, hmk, hm⟩

end

/-! ## The validity of an offer copy -/

/-- The validity of an offer copy in the words of R92. -/
def Offer.WellPaged (o : Offer) : Prop :=
  (1 ≤ o.count ∧ o.count ≤ 8) ∧
  (pageKind (o.word 0) = .base ∧ ∃ c, pageOffersPoll (o.word 0) c = true) ∧
  (∀ k, 1 ≤ k → k < o.count → pageKind (o.word k) ≠ .base) ∧
  (∀ k < o.count, pageKind (o.word k) ≠ .invalid) ∧
  (∀ k < o.count, pageKind (o.word k) = .message →
    (∀ j, 1 ≤ j → j ≤ pagePlains (o.word k) → k + j < o.count ∧ pageKind (o.word (k + j)) = .plain) ∧
    (k + pagePlains (o.word k) + 1 < o.count → pageKind (o.word (k + pagePlains (o.word k) + 1)) ≠ .plain)) ∧
  (∀ k < o.count, pageKind (o.word k) = .plain →
    ∃ m < k, pageKind (o.word m) = .message ∧ k ≤ m + pagePlains (o.word m))

/-- A BASE page's poll set holds at least one class (R92). -/
theorem anyPoll_iff (p : PageWord) :
    [PollClass.ticks1, .ticks2, .ticks4, .ticks8].any (pageOffersPoll p) = true ↔ ∃ c, pageOffersPoll p c = true := by
  rw [List.any_eq_true]
  exact exists_congr fun c => and_iff_right (by cases c <;> decide)

/-- What holds of every page within the count. -/
theorem words_all_iff (o : Offer) (p : PageWord → Bool) : o.words.all p = true ↔ ∀ k < o.count, p (o.word k) = true := by
  simp [Offer.words]

/-- What holds of every page within the count but that in slot 0. -/
theorem laterWords_all_iff (o : Offer) (p : PageWord → Bool) :
    (o.words.drop 1).all p = true ↔ ∀ k, 1 ≤ k → k < o.count → p (o.word k) = true := by
  rw [Offer.words, List.range_eq_range', ← List.map_drop, List.drop_range', List.all_map, List.all_eq_true]
  refine ⟨fun h k h1 hk => h k (by rw [List.mem_range'_1]; omega), fun h k hk => ?_⟩
  rw [List.mem_range'_1] at hk
  exact h k (by omega) (by omega)

/-- The validity that COMMIT OFFER checks is that of R92. -/
theorem Offer.valid_iff (o : Offer) : o.valid = true ↔ o.WellPaged := by
  have hplains : plainsMatch 0 o.words = true ↔ _ := plainsMatch_iff.trans (and_congr_right' plainDue_iff_plain)
  simp only [Offer.valid, Offer.WellPaged, Bool.and_eq_true, decide_eq_true_eq, beq_iff_eq, anyPoll_iff, words_all_iff,
    laterWords_all_iff, bne_iff_ne, and_assoc, hplains,
    and_self_left]

/-! ## COMMIT OFFER -/

/-- The refusal that a COMMIT OFFER meets first (R92). -/
def State.commitRefusal (s : State) : Option ResultCode :=
  firstRefusal [(s.commitPending, .commitPending), (!s.shadow.valid, .offerInvalid)]

/-- COMMIT OFFER is a command of the table with the checks of R92 and the effect of R93. -/
theorem exec_commitOffer (s : State) : exec .commitOffer s = .next (s.command s.commitRefusal s.commitOffer) := rfl

theorem commitRefusal_pending {s : State} (h : s.commitPending = true) : s.commitRefusal = some .commitPending := by
  rw [State.commitRefusal, h, firstRefusal_holds]

/-- With no commit pending the shadow decides (R92). -/
theorem commitRefusal_shadow {s : State} (h : s.commitPending = false) :
    s.commitRefusal = if s.shadow.valid then none else some .offerInvalid := by
  rw [State.commitRefusal, h, firstRefusal_passes]
  cases s.shadow.valid <;> rfl

/-- A COMMIT OFFER that meets a refusal changes neither copy of the offer (R92, R177). -/
theorem refuses_commitOffer {s : State} {r : ResultCode} (h : s.Open) (hr : s.commitRefusal = some r) :
    Refuses .commitOffer s r.code :=
  refuses_of_command h (hr ▸ exec_commitOffer s)

/-- A COMMIT OFFER that passes its checks is taken with result OK (R93). -/
theorem exec_commitOffer_taken {s : State} (h : s.Open) (hp : s.commitPending = false) (hv : s.shadow.valid = true) :
    exec .commitOffer s = .next (s.commitOffer.answer .ok 0) := by
  rw [exec_commitOffer, commitRefusal_shadow hp, if_pos hv, command_taken _ _ h.1 h.2]

/-- With no negotiation in progress the shadow is copied at once (R93). -/
theorem commitOffer_copies {s : State} (h : s.negotiation = none) :
    s.commitOffer = { s with active := s.shadow }.setCause .commit := by
  simp [State.commitOffer, h]

/-- Behind a negotiation in progress the commit is pending (R93). -/
theorem commitOffer_waits {s : State} (h : s.negotiation ≠ none) : s.commitOffer = { s with commitPending := true } := by
  simp [State.commitOffer, Option.isSome_iff_ne_none.mpr h]

/-- Settles O30: CLEARING, a pending commit, and then the validity of the shadow decide, in this order. -/
theorem commitOfferChecks : Obligations.CommitOfferChecks := by
  refine ⟨fun s h hc => ?_, fun s h => ⟨fun hp => refuses_commitOffer h (commitRefusal_pending hp), fun hp =>
    ⟨fun hvalid => ?_, fun hinvalid => refuses_commitOffer (r := .offerInvalid) h ?_⟩⟩⟩
  · rw [Refuses, exec_commitOffer, command_clearing _ _ _ h hc]
    rfl
  · exact ⟨_, exec_commitOffer_taken h hp (s.shadow.valid_iff.mpr hvalid), rfl⟩
  · rw [commitRefusal_shadow hp, if_neg (mt s.shadow.valid_iff.mp hinvalid)]

/-- Settles O29: what a taken COMMIT OFFER does, by whether a negotiation is in progress. -/
theorem commitOfferByNegotiation : Obligations.CommitOfferByNegotiation := by
  refine fun s h hp hv => ⟨fun hn => ?_, fun hn => ?_⟩
  · rw [exec_commitOffer_taken h hp hv, commitOffer_copies hn]
    rfl
  · rw [exec_commitOffer_taken h hp hv, commitOffer_waits hn]
    rfl

end Sys2Proof.Machine
end

section
/-! PROOF. The sweep unit: the tick (O34), the write of SWEEPIVL (O38) and the write of MISSLIM (O39). -/

namespace Sys2Proof.Machine

/-! ## Sweep ticks -/

/-- What a tick marks, in the words of R98: an ACTIVE entry by its poll class, a LOST one on every 16th tick. -/
theorem Entry.marked_iff (t : Nat) (a : Addr) (e : Entry) : e.marked t a = true ↔
    (e.state = .active ∧ ∃ terms, e.terms = some terms ∧ (t + a.number) % terms.pollClass.ticks = 0) ∨
      (e.state = .lost ∧ (t + a.number) % 16 = 0) := by
  unfold Entry.marked
  split
  case h_1 terms hstate hterms => simp [hstate, hterms]
  case h_2 hstate => simp [hstate, Config.probeSpacing]
  case h_3 hlost hactive =>
    refine ⟨nofun, ?_⟩
    rintro (⟨hstate, terms, hterms, -⟩ | ⟨hstate, -⟩)
    · exact (hactive terms hstate hterms).elim
    · exact (hlost hstate).elim

/-- The timer counts while the line is IDLE, BUSY or DRAINING (R98). -/
theorem tickCounting_iff {s : State} :
    s.tickCounting = true ↔ s.lineState = .idle ∨ s.lineState = .busy ∨ s.lineState = .draining := by
  simp [State.tickCounting, or_assoc]

theorem exec_sweepTick {s : State} (h : s.Running) (hc : s.tickCounting = true) : exec .sweepTick s = .next s.tick := by
  simp [exec, execSweepTick, unlessReset_released h, hc]

theorem tick_entry (s : State) (a : Addr) : s.tick.entry a =
    { s.entry a with due := (s.entry a).due || (s.entry a).marked (s.tickCounter + 1).toNat a } :=
  State.entry_mapEntries s (fun a e => { e with due := e.due || e.marked (s.tickCounter + 1).toNat a }) a

/-- A tick changes the counter, the timer and the roster (R98, R99). -/
theorem tick_eq (s : State) : s.tick = { s with
    tickCounter := s.tickCounter + 1, tickTimer := 2 * s.sweepInterval.toNat, roster := s.tick.roster } := by
  rw [Nat.mul_comm]
  rfl

/-- Settles O34: a tick in a counting line state marks by `Entry.marked` and keeps the marks that stand. -/
theorem sweepTickMarksDue : Obligations.SweepTickMarksDue := by
  refine fun s h hl => ⟨s.tick, exec_sweepTick h (tickCounting_iff.mpr hl), tick_eq s, fun a => ⟨?_, ?_⟩⟩
  · rw [tick_entry]
  · rw [tick_entry, Bool.or_eq_true, Entry.marked_iff]

/-! ## Clamped values -/

/-- A value clamped from below at 1: only 0 stands below the range. -/
theorem clamp_one (high v : Byte) : clamp 1 high v = if v = 0 then 1 else if high < v then high else v := by
  have hlow : v < 1 ↔ v = 0 := BitVec.lt_one_iff (by decide)
  simp only [clamp, hlow]

/-- No byte stands above 255. -/
theorem clamp_one_255 (v : Byte) : clamp 1 255 v = if v = 0 then 1 else v := by
  have hhigh : ¬255 < v := BitVec.not_allOnes_lt
  rw [clamp_one, if_neg hhigh]

/-! ## SWEEPIVL -/

theorem exec_sweepivlWrite {s : State} (v : Byte) (h : s.Running) :
    exec (.sweepivlWrite v) s = .next (s.writeSweepInterval v) :=
  congrArg Host.Outcome.next (unlessReset_released h)

/-- The write stores the clamped interval and restarts the timer from it (R97). -/
theorem writeSweepInterval_eq (v : Byte) (s : State) : s.writeSweepInterval v =
    { s with sweepInterval := clamp 1 255 v, tickTimer := 2 * (clamp 1 255 v).toNat } := by
  rw [Nat.mul_comm]
  rfl

/-- Settles O38: the interval is stored with 0 as 1, and the timer restarts from it. -/
theorem sweepIntervalWrite : Obligations.SweepIntervalWrite := by
  intro v s h
  have hticks : (if v = 0 then (1 : Byte) else v).toNat = if v = 0 then 1 else v.toNat := apply_ite BitVec.toNat _ _ _
  rw [exec_sweepivlWrite v h, writeSweepInterval_eq, clamp_one_255, hticks]

/-! ## MISSLIM -/

theorem exec_misslimWrite {s : State} (v : Byte) (h : s.Running) :
    exec (.misslimWrite v) s = .next (s.writeMissLimit v) :=
  congrArg Host.Outcome.next (unlessReset_released h)

/-- Of an entry under a new limit only the miss count may change (R109). -/
theorem underLimit_eq (limit : Nat) (e : Entry) : e.underLimit limit =
    { e with misses := if e.state = .active ∧ limit ≤ e.misses then limit - 1 else e.misses } := by
  unfold Entry.underLimit
  split <;> rfl

/-- The write stores the clamped limit and changes nothing else but the roster (R109). -/
theorem writeMissLimit_eq (v : Byte) (s : State) : s.writeMissLimit v =
    { s with missLimit := clamp 1 15 v, roster := (s.writeMissLimit v).roster } := rfl

/-- MISSLIM reads as the limit in force (R174). -/
theorem readRegister_misslim (s : State) : s.readRegister 0x1A = s.missLimit := rfl

/-- A CLEAR command, taken or refused, keeps the miss limit (R172). -/
theorem command_clearTaken_missLimit {s : State} (h : s.Running) :
    (s.command none s.clearTaken).missLimit = s.missLimit := by
  cases hc : s.clearing with
  | true => rw [command_clearing _ _ _ h hc, State.answer_missLimit]
  | false => rw [command_taken _ _ h hc, State.answer_missLimit, (clearTaken_calm s).missLimit]

/-- The grant of the line to the CLEAR's DISMISS keeps the miss limit. -/
theorem exec_clearDismiss_missLimit {s t : State} {mda : Level} (h : exec (.clearDismiss mda) s = .next t) :
    t.missLimit = s.missLimit := by
  obtain rfl := Host.Outcome.next.inj h
  unfold State.unlessReset
  split
  · rfl
  · split
    · exact (openExchange_sameHost _ _ s).missLimit
    · rfl

/-- Settles O39: the write, the reset value, and each stage of a CLEAR. -/
theorem missLimitWrite : Obligations.MissLimitWrite := by
  refine ⟨fun v s h => ?_, rfl, ?_⟩
  · dsimp only
    rw [← clamp_one 15 v]
    refine ⟨s.writeMissLimit v, exec_misslimWrite v h, writeMissLimit_eq v s, readRegister_misslim _, fun a => ?_⟩
    rw [writeMissLimit_entry, underLimit_eq]
  · rintro s t h (⟨mda, hclear | hdismiss⟩ | rfl)
    · rw [← Host.Outcome.next.inj hclear, command_clearTaken_missLimit h]
    · exact exec_clearDismiss_missLimit hdismiss
    · exact (finishClear_sameHost s).missLimit

end Sys2Proof.Machine
end

section
/-! PROOF. The tickets of live requests (R116) as one relation between the state before and after, which composes, and its
rules for the operations on the queue and the ring: a record takes over the ticket of its request. -/

namespace Sys2Proof.Machine

/-! ## Tickets through the changes of the queue and the ring -/

/-- The first element that satisfies a test stands before the list without it. -/
theorem perm_eraseP_of_find? {α : Type} {p : α → Bool} {l : List α} {x : α} (h : l.find? p = some x) :
    l.Perm (x :: l.eraseP p) := by
  obtain ⟨hx, l1, l2, rfl, hn⟩ := List.find?_eq_some_iff_append.mp h
  rw [List.eraseP_append_right _ (by simpa using hn), List.eraseP_cons_of_pos hx]
  exact List.perm_middle

/-- What is read of the elements stays, where the changed element keeps it. -/
theorem map_updateFirst {α β : Type} {p : α → Bool} {f : α → α} {g : α → β} {l : List α}
    (h : ∀ x, l.find? p = some x → g (f x) = g x) : (updateFirst p f l).map g = l.map g := by
  induction l with
  | nil => rfl
  | cons y rest ih =>
    by_cases hy : p y = true
    · simp [updateFirst, hy, h y (by simp [hy])]
    · simpa [updateFirst, hy] using ih fun x hx => h x (by simp [hy, hx])

/-- The live tickets after are among those before, none of them more often (R116). -/
def TicketsWithin (s t : State) : Prop := t.liveTickets.Subperm s.liveTickets

theorem TicketsWithin.refl (s : State) : TicketsWithin s s := List.Subperm.refl _

theorem TicketsWithin.trans {s t u : State} (h : TicketsWithin s t) (k : TicketsWithin t u) : TicketsWithin s u :=
  List.Subperm.trans k h

/-- The queue holds the tickets that it held, and the ring is as it was. -/
theorem TicketsWithin.of_tickets {s t : State} (hq : t.queue.map Request.ticket = s.queue.map Request.ticket)
    (hr : t.ring = s.ring) : TicketsWithin s t := by
  rw [TicketsWithin, State.liveTickets, State.liveTickets, hq, hr]

/-- Only fields beside the queue and the ring have been changed since. -/
theorem TicketsWithin.keep {s t u : State} (h : TicketsWithin s t) (hq : u.queue = t.queue) (hr : u.ring = t.ring) :
    TicketsWithin s u := h.trans (.of_tickets (by rw [hq]) hr)

theorem TicketsWithin.of_eq {s t : State} (hq : t.queue = s.queue) (hr : t.ring = s.ring) : TicketsWithin s t :=
  (TicketsWithin.refl s).keep hq hr

/-- An event record holds no ticket. -/
theorem postEvent_tickets (e : EventRecord) (s : State) : TicketsWithin s (s.post (.event e)) := by
  have hring : (s.post (.event e)).ring.filterMap Record.ticket? = s.ring.filterMap Record.ticket? := by
    simp [Record.ticket?]
  rw [TicketsWithin, State.liveTickets, hring]
  exact .refl _

/-- A request's record takes over the ticket of the request that leaves the queue (R116, R131). -/
theorem dropPost_tickets {s : State} {p : Request → Bool} {r : Request} {record : RequestRecord}
    (hr : s.queue.find? p = some r) (ht : record.ticket = r.ticket) :
    TicketsWithin s ((s.dropRequest p).post (.request record)) := by
  have hring : ((s.dropRequest p).post (.request record)).ring.filterMap Record.ticket? =
      s.ring.filterMap Record.ticket? ++ [r.ticket] := by simp [Record.ticket?, ht]
  rw [TicketsWithin, State.liveTickets, hring]
  refine List.Perm.subperm ?_
  calc (s.queue.eraseP p).map Request.ticket ++ (s.ring.filterMap Record.ticket? ++ [r.ticket])
      _ |>.Perm (r.ticket :: ((s.queue.eraseP p).map Request.ticket ++ s.ring.filterMap Record.ticket?)) := by
        rw [← List.append_assoc]; exact List.perm_append_singleton _ _
      _ |>.Perm s.liveTickets := ((perm_eraseP_of_find? hr).symm.map Request.ticket).append_right _

/-- A request that is changed keeps its ticket. -/
theorem modifyRequest_tickets {s : State} {p : Request → Bool} {f : Request → Request}
    (h : ∀ r, s.queue.find? p = some r → (f r).ticket = r.ticket) : TicketsWithin s (s.modifyRequest p f) :=
  .of_tickets (map_updateFirst h) rfl

theorem raise_tickets (e : EventRecord) (s : State) : TicketsWithin s (s.raise e) := by
  unfold State.raise
  split
  · exact postEvent_tickets e s
  · exact .of_eq (hold_ring_queue e s).2 (hold_ring_queue e s).1

theorem raiseAt_tickets (a : Addr) (d : EventData) (s : State) : TicketsWithin s (s.raiseAt a d) := raise_tickets _ s

/-- A verdict is stored with its request or posted in its record (R132). -/
theorem giveVerdict_tickets (ticket : Byte) (v : Completion) (s : State) : TicketsWithin s (s.giveVerdict ticket v) := by
  unfold State.giveVerdict
  split
  · exact .refl s
  rename_i r hr
  have hpost : TicketsWithin s (s.postRequest r v) := dropPost_tickets (request?_ticket hr ▸ hr) rfl
  split
  · exact .refl s
  split
  · exact .refl s
  · exact hpost
  split
  · exact hpost
  · obtain ⟨hq, hring⟩ := noteBacklog_queue_ring s
    exact (TicketsWithin.of_eq hq hring).trans (modifyRequest_tickets fun _ _ => rfl)

theorem giveVerdicts_tickets (which : Request → Option Completion) (s : State) : TicketsWithin s (s.giveVerdicts which) := by
  unfold State.giveVerdicts
  generalize s.queue.filterMap _ = l
  induction l generalizing s with
  | nil => exact .refl s
  | cons w rest ih => exact (giveVerdict_tickets w.1 w.2 s).trans (ih _)

theorem giveAddressVerdicts_tickets (a : Addr) (v : Completion) (s : State) : TicketsWithin s (s.giveAddressVerdicts a v) :=
  giveVerdicts_tickets _ s

end Sys2Proof.Machine
end

section
/-! PROOF. The sources' own work makes no ticket live: the roster, the census, the negotiation, the sweep and the dispatcher. -/

namespace Sys2Proof.Machine

/-! ## Entries, stores, the FIFO and the end of a negotiation -/

theorem modifyEntry_tickets (a : Addr) (f : Entry → Entry) (s : State) : TicketsWithin s (s.modifyEntry a f) :=
  .of_eq rfl rfl

theorem setStore_tickets (a : Addr) (st : Store) (s : State) : TicketsWithin s (s.setStore a st) := .of_eq rfl rfl

theorem countClaim_tickets (s : State) : TicketsWithin s s.countClaim := .of_eq rfl rfl

theorem appendFifo_tickets (a : Addr) (s : State) : TicketsWithin s (s.appendFifo a) := by
  rw [appendFifo_eq]
  exact .of_eq rfl rfl

theorem endNegotiation_tickets (s : State) : TicketsWithin s s.endNegotiation := by
  rw [endNegotiation_eq]
  exact .of_eq rfl rfl

theorem endNegotiationOf_tickets (a : Addr) (s : State) : TicketsWithin s (s.endNegotiationOf a) := by
  unfold State.endNegotiationOf
  split
  · exact .refl s
  split
  · exact endNegotiation_tickets s
  · exact .refl s

theorem abandonNegotiation_tickets (s : State) : TicketsWithin s s.abandonNegotiation := by
  rw [abandonNegotiation_eq, State.withNegotiationAbandoned]
  split <;> exact .of_eq rfl rfl

/-! ## The roster -/

theorem enterPending_tickets (a : Addr) (s : State) : TicketsWithin s (s.enterPending a) :=
  (modifyEntry_tickets a _ s).trans (appendFifo_tickets a _)

/-- Entering LOST gives verdicts and raises an event (R108). -/
theorem enterLost_tickets (a : Addr) (s : State) : TicketsWithin s (s.enterLost a) :=
  ((modifyEntry_tickets a _ s).trans (giveAddressVerdicts_tickets a _ _)).trans (raiseAt_tickets a _ _)

theorem becomeFree_tickets (a : Addr) (answered : Bool) (s : State) : TicketsWithin s (s.becomeFree a answered) :=
  (raiseAt_tickets a _ s).keep rfl rfl

theorem addMiss_tickets (a : Addr) (s : State) : TicketsWithin s (s.addMiss a) := by
  unfold State.addMiss
  dsimp only
  split
  · exact (modifyEntry_tickets a _ s).trans (enterLost_tickets a _)
  · exact .of_eq rfl rfl

theorem releaseEntry_tickets (a : Addr) (s : State) : TicketsWithin s (s.releaseEntry a) :=
  ((giveAddressVerdicts_tickets a .released s).trans (endNegotiationOf_tickets a _)).keep rfl rfl

theorem releaseEnd_tickets (a : Addr) (e : ExchangeEnd) (s : State) : TicketsWithin s (s.releaseEnd a e) := by
  unfold State.releaseEnd
  split
  case h_1 => exact becomeFree_tickets a true s
  case h_2 | h_3 => exact becomeFree_tickets a false s
  all_goals exact .refl s

/-- A rejoin gives verdicts, ends the entry's negotiation and raises an event (R11). -/
theorem rejoin_tickets (a : Addr) (s : State) : TicketsWithin s (s.rejoin a) := by
  have hverdicts := (giveAddressVerdicts_tickets a .nodeRestarted s).trans (endNegotiationOf_tickets a _)
  unfold State.rejoin
  exact ((((hverdicts.trans (modifyEntry_tickets a _ _)).trans (setStore_tickets a _ _)).trans
    (appendFifo_tickets a _)).trans (countClaim_tickets _)).trans (raiseAt_tickets a _ _)

theorem claimAccepted_tickets (s : State) : TicketsWithin s s.claimAccepted := by
  unfold State.claimAccepted
  split
  · exact ((TicketsWithin.of_eq (t := s.setEntry _ _) rfl rfl).trans (appendFifo_tickets _ _)).trans (countClaim_tickets _)
  · split
    · exact .of_eq rfl rfl
    · exact rejoin_tickets _ s
  · exact .refl s

theorem assignAddress_tickets (u : UnitNumber) (s : State) : TicketsWithin s (s.assignAddress u).1 := by
  unfold State.assignAddress
  split
  · exact .refl s
  split
  · exact becomeFree_tickets _ _ s
  · exact .refl s

/-! ## The census -/

/-- The end of a run raises CENSUS END alone (R70). -/
theorem endRun_tickets (o : RunOutcome) (u : UnitNumber) (s : State) : TicketsWithin s (s.endRun o u) :=
  (raise_tickets _ s).keep rfl rfl

theorem endRunLine_tickets (s : State) : TicketsWithin s s.endRunLine := by
  unfold State.endRunLine
  split
  · exact endRun_tickets _ _ s
  · exact .refl s

theorem roundEndsRun_tickets (o : RunOutcome) (u : UnitNumber) (s : State) : TicketsWithin s (s.roundEndsRun o u) := by
  unfold State.roundEndsRun
  split <;> exact endRun_tickets _ _ s

theorem afterRound_tickets (s : State) : TicketsWithin s s.afterRound := by
  unfold State.afterRound
  split
  · exact endRun_tickets _ _ s
  split
  · exact endRun_tickets _ _ s
  split
  · exact endRun_tickets _ _ s
  · exact .of_eq rfl rfl

theorem failRound_tickets (s : State) : TicketsWithin s s.failRound :=
  TicketsWithin.trans (.of_eq rfl rfl) (afterRound_tickets { s with failures := s.failures + 1 })

theorem censusEnd_tickets (e : ExchangeEnd) (s : State) : TicketsWithin s (s.censusEnd e) := by
  unfold State.censusEnd
  split
  · exact endRunLine_tickets s
  · exact endRunLine_tickets s
  · exact TicketsWithin.trans (.of_eq rfl rfl) (afterRound_tickets { s with dismissOwed := false, failures := 0 })
  · exact failRound_tickets s
  · exact ((claimAccepted_tickets s).keep rfl rfl).trans (afterRound_tickets
      { s.claimAccepted with failures := if s.lineState = .draining then s.failures else 0 })
  all_goals exact .refl s

theorem stopRun_tickets (s : State) : TicketsWithin s s.stopRun := by
  unfold State.stopRun
  split
  · exact endRun_tickets _ _ s
  all_goals exact .of_eq rfl rfl

/-! ## The negotiation -/

theorem failNegotiation_tickets (n : Negotiation) (r : RefusalReason) (s : State) :
    TicketsWithin s (s.failNegotiation n r) :=
  (((modifyEntry_tickets _ _ s).trans (raiseAt_tickets _ _ _)).trans (giveAddressVerdicts_tickets _ _ _)).trans
    (endNegotiation_tickets _)

theorem protocolError_tickets (n : Negotiation) (s : State) : TicketsWithin s (s.protocolError n) := by
  unfold State.protocolError
  split
  · exact .of_eq rfl rfl
  · exact failNegotiation_tickets n _ s

/-- A resolution raises JOINED and gives verdicts (R88, R90). -/
theorem resolveNegotiation_tickets (n : Negotiation) (s : State) : TicketsWithin s (s.resolveNegotiation n) := by
  unfold State.resolveNegotiation
  dsimp only
  split
  · exact failNegotiation_tickets n _ s
  · exact (((modifyEntry_tickets _ _ s).trans (raiseAt_tickets _ _ _)).trans (giveVerdicts_tickets _ _)).trans
      (endNegotiation_tickets _)

theorem judgePage_tickets (n : Negotiation) (w : PageWord) (s : State) : TicketsWithin s (s.judgePage n w) := by
  have hkept : TicketsWithin s (s.modifyEntry n.address fun e => { e with pages := keepPage e.pages w }) := .of_eq rfl rfl
  unfold State.judgePage
  split
  · exact protocolError_tickets n s
  split
  · exact protocolError_tickets n s
  split
  · exact failNegotiation_tickets n _ s
  split
  · exact failNegotiation_tickets n _ s
  unfold State.pageKept
  dsimp only
  split
  · exact hkept.trans (resolveNegotiation_tickets n _)
  split
  · exact hkept.trans (failNegotiation_tickets n _ _)
  · exact hkept.keep rfl rfl

theorem pageWait_tickets (n : Negotiation) (s : State) : TicketsWithin s (s.pageWait n) := by
  unfold State.pageWait
  dsimp only
  split
  · exact protocolError_tickets _ s
  · exact .of_eq rfl rfl

theorem pageEnd_tickets (a : Addr) (e : ExchangeEnd) (s : State) : TicketsWithin s (s.pageEnd a e) := by
  unfold State.pageEnd
  split
  · exact .refl s
  rename_i n _
  split
  · exact .refl s
  split
  · exact abandonNegotiation_tickets s
  split
  · exact judgePage_tickets n _ s
  · exact protocolError_tickets n s
  · exact pageWait_tickets n s
  · exact (enterLost_tickets a s).trans (endNegotiation_tickets _)
  · exact abandonNegotiation_tickets s
  · exact abandonNegotiation_tickets s
  · exact .refl s

/-! ## The sweep -/

theorem applyCondition_tickets (a : Addr) (c : Condition) (s : State) : TicketsWithin s (s.applyCondition a c) := by
  unfold State.applyCondition
  split
  · exact .refl s
  · exact (modifyEntry_tickets a _ s).trans (raiseAt_tickets a _ _)

theorem applyAttention_tickets (a : Addr) (code : Byte) (s : State) : TicketsWithin s (s.applyAttention a code) := by
  unfold State.applyAttention
  dsimp only
  split
  · exact (raiseAt_tickets a _ s).keep rfl rfl
  · exact .refl s

theorem applyAcknowledge_tickets (a : Addr) (k : Bool) (s : State) : TicketsWithin s (s.applyAcknowledge a k) := by
  unfold State.applyAcknowledge
  split <;> exact .of_eq rfl rfl

theorem probeReturn_tickets (a : Addr) (s : State) : TicketsWithin s (s.probeReturn a) := by
  unfold State.probeReturn
  refine TicketsWithin.trans ?_ (raiseAt_tickets a _ _)
  split
  · exact .of_eq rfl rfl
  · exact enterPending_tickets a s

theorem pollAnswer_tickets (a : Addr) (k : Bool) (code : Byte) (c : Condition) (s : State) :
    TicketsWithin s (s.pollAnswer a k code c) := by
  have hdue  := modifyEntry_tickets a (fun e => { e with due := false }) s
  unfold State.pollAnswer
  dsimp only
  refine TicketsWithin.trans ?_ (((applyAcknowledge_tickets a k _).trans (applyCondition_tickets a c _)).trans
    (applyAttention_tickets a code _))
  split
  · exact hdue.trans (probeReturn_tickets a _)
  · exact hdue

theorem failedPoll_tickets (a : Addr) (s : State) : TicketsWithin s (s.failedPoll a) := by
  have hdue  := modifyEntry_tickets a (fun e => { e with due := false }) s
  unfold State.failedPoll
  dsimp only
  split
  · exact hdue
  · exact hdue.trans (addMiss_tickets a _)

theorem pollEnd_tickets (a : Addr) (k : Bool) (e : ExchangeEnd) (s : State) : TicketsWithin s (s.pollEnd a k e) := by
  unfold State.pollEnd
  split
  · exact .refl s
  split
  · split
    · exact pollAnswer_tickets a k _ _ s
    · exact .refl s
  · split
    · exact .refl s
    · exact failedPoll_tickets a s
  · split
    · exact .refl s
    · exact failedPoll_tickets a s
  all_goals exact .refl s

/-! ## Requests -/

section
variable {s : State} {q r : Request}

/-- The ON-LINE request's record takes over its ticket, whatever its counts have become (R131). -/
theorem completeRequest_tickets (h : s.onLine? = some q) (ht : r.ticket = q.ticket) (c : Completion) (reason : BitVec 4)
    (p : List Byte) : TicketsWithin s (s.completeRequest r c reason p) := dropPost_tickets h ht

theorem holdOrEnd_tickets (h : s.onLine? = some q) (ht : r.ticket = q.ticket) : TicketsWithin s (s.holdOrEnd r) := by
  unfold State.holdOrEnd
  split
  · exact completeRequest_tickets h ht _ _ _
  split
  · exact completeRequest_tickets h ht _ _ _
  · exact modifyRequest_tickets fun x hx => ht.trans (congrArg _ (Option.some.inj (h.symm.trans hx)))

theorem waitRequest_tickets (h : s.onLine? = some q) (ht : r.ticket = q.ticket) : TicketsWithin s (s.waitRequest r) := by
  unfold State.waitRequest
  split
  · exact completeRequest_tickets (r := r.waited) h ht _ _ _
  · exact holdOrEnd_tickets (r := r.waited) h ht

end

theorem missFor_tickets (r : Request) (s : State) : TicketsWithin s (s.missFor r) := by
  unfold State.missFor
  split
  · exact .refl s
  split
  · exact .refl s
  · exact addMiss_tickets _ s

theorem requestEnd_tickets (e : ExchangeEnd) (s : State) : TicketsWithin s (s.requestEnd e) := by
  unfold State.requestEnd
  split
  · exact .refl s
  rename_i r hr
  have hcomplete := completeRequest_tickets hr rfl
  split
  · exact hcomplete _ _ _
  · exact hcomplete _ _ _
  · exact hcomplete _ _ _
  · exact waitRequest_tickets hr rfl
  · exact (hcomplete _ _ _).trans (missFor_tickets r _)
  · exact holdOrEnd_tickets hr rfl
  · exact hcomplete _ _ _

/-- No source makes a ticket live at the end of its exchange (section 2.6). -/
theorem handEnd_tickets (x : Exchange) (e : ExchangeEnd) (s : State) : TicketsWithin s (s.handEnd x e) := by
  unfold State.handEnd
  split
  · exact releaseEnd_tickets _ e s
  · exact pageEnd_tickets _ e s
  · exact pollEnd_tickets _ _ e s
  · exact censusEnd_tickets e s
  · exact requestEnd_tickets e s
  all_goals exact .refl s

end Sys2Proof.Machine
end

section
/-! PROOF. The line engine, the arbiter and the commands make no ticket live, but for SUBMIT. -/

namespace Sys2Proof.Machine

/-! ## The line engine -/

theorem settleYield_tickets (s : State) : TicketsWithin s s.settleYield := by
  unfold State.settleYield
  split <;> exact .of_eq rfl rfl

theorem lineFreed_tickets (s : State) : TicketsWithin s s.lineFreed := by
  unfold State.lineFreed
  split
  · exact TicketsWithin.trans (.of_eq rfl rfl) (settleYield_tickets { s with lineState := .idle })
  all_goals exact .of_eq rfl rfl

/-- The emptying stage leaves no ticket live (R172). -/
theorem finishClear_tickets (s : State) : TicketsWithin s s.finishClear := List.nil_subperm

theorem drained_tickets (s : State) : TicketsWithin s s.drained := by
  unfold State.drained
  split
  · exact .refl s
  · exact finishClear_tickets s

theorem endExchange_tickets (e : ExchangeEnd) (s : State) : TicketsWithin s (s.endExchange e) := by
  unfold State.endExchange
  split
  · exact .refl s
  rename_i x _
  have hoff : TicketsWithin s { s with exchange := none } := .of_eq rfl rfl
  dsimp only
  split
  · exact finishClear_tickets s
  split
  · exact (hoff.trans (lineFreed_tickets _)).trans (drained_tickets _)
  · exact (hoff.trans (handEnd_tickets x e _)).trans (lineFreed_tickets _)

/-- A fault hands its end to the source and ends the work that waits for the line (R166). -/
theorem lineFault_tickets (kind : FaultKind) (s : State) : TicketsWithin s (s.lineFault kind) := by
  unfold State.lineFault
  split
  · exact .refl s
  rename_i x _
  dsimp only
  have hhand : TicketsWithin s (if x.discard = true then { s with exchange := none }
      else State.handEnd x .faulted { s with exchange := none }) := by
    split
    · exact .of_eq rfl rfl
    · exact TicketsWithin.trans (.of_eq rfl rfl) (handEnd_tickets x .faulted { s with exchange := none })
  split
  · exact finishClear_tickets s
  · exact ((hhand.trans (endRunLine_tickets _)).trans (abandonNegotiation_tickets _)).keep rfl rfl

/-- A lead-in counts an attempt of the ON-LINE request (R122). -/
theorem leadIn_tickets (x : Exchange) (s : State) : TicketsWithin s (s.leadIn x) := by
  unfold State.leadIn
  dsimp only
  split
  · exact TicketsWithin.trans (t := { s with exchange := some (s.exchangeAtLeadIn x), lineRateInForce := s.lineRate })
      (.of_eq rfl rfl) (modifyRequest_tickets fun _ _ => rfl)
  · exact .of_eq rfl rfl

theorem lineCheck_tickets (x : Exchange) (mda : Level) (s : State) : TicketsWithin s (s.lineCheck x mda) := by
  unfold State.lineCheck
  split
  · exact leadIn_tickets x s
  · exact .of_eq rfl rfl

theorem openExchange_tickets (x : Exchange) (mda : Level) (s : State) : TicketsWithin s (s.openExchange x mda) :=
  TicketsWithin.trans (.of_eq rfl rfl) (lineCheck_tickets x mda { s with lineState := .busy })

theorem commandTail_tickets (x : Exchange) (s : State) : TicketsWithin s (s.commandTail x) := by
  unfold State.commandTail
  split
  · exact endExchange_tickets _ s
  all_goals exact .of_eq rfl rfl

theorem interrupt_tickets (s : State) : TicketsWithin s s.interrupt := by
  unfold State.interrupt
  split
  · exact .refl s
  rename_i x _
  dsimp only
  split
  · exact .of_eq rfl rfl
  · exact TicketsWithin.trans (.of_eq rfl rfl)
      (endExchange_tickets _ { s with exchange := some { x with interruptTaken := true } })

theorem attemptFails_tickets (x : Exchange) (reason : Failure) (s : State) : TicketsWithin s (s.attemptFails x reason) := by
  have hfailed : TicketsWithin s { s with exchange := some { x with lastFailure := some reason } } := .of_eq rfl rfl
  unfold State.attemptFails
  dsimp only
  split
  · exact hfailed.trans (endExchange_tickets _ _)
  split
  · exact .of_eq rfl rfl
  · exact hfailed.trans (endExchange_tickets _ _)

theorem noteAnswer_tickets (f : Frame) (answer : Answer) (s : State) : TicketsWithin s (s.noteAnswer f answer) := by
  unfold State.noteAnswer
  split <;> exact .of_eq rfl rfl

theorem acceptAnswer_tickets (x : Exchange) (answer : Answer) (s : State) : TicketsWithin s (s.acceptAnswer x answer) := by
  refine (noteAnswer_tickets x.frame answer s).trans ?_
  unfold State.acceptAnswer
  dsimp only
  split
  · exact attemptFails_tickets x _ _
  · exact endExchange_tickets _ _

theorem closeField_tickets {after : State → State} (h : ∀ t, TicketsWithin t (after t)) (s : State) :
    TicketsWithin s (s.closeField after) :=
  (TicketsWithin.trans (.of_eq rfl rfl) (h { s with exchange := none })).trans (lineFreed_tickets _)

/-- A field that has been read ends its round, or frees a RELEASING holder and goes on to its CLAIM (R59 to R61). -/
theorem judgeField_tickets (x : Exchange) (u : UnitNumber) (check : Byte) (mda : Level) (s : State) :
    TicketsWithin s (s.judgeField x u check mda) := by
  unfold State.judgeField
  split
  · exact closeField_tickets (roundEndsRun_tickets _ _) s
  split
  · exact closeField_tickets failRound_tickets s
  have hassign := assignAddress_tickets u s
  generalize s.assignAddress u = p at hassign
  obtain ⟨t, chosen⟩ := p
  dsimp only at hassign ⊢
  split
  · exact hassign.trans (closeField_tickets (roundEndsRun_tickets _ _) t)
  · rename_i a rejoin
    exact (hassign.keep rfl rfl).trans (lineCheck_tickets _ mda { t with round := some (.claim u a rejoin) })

/-! ## Grants -/

theorem grantCensus_tickets (mda : Level) (s : State) : TicketsWithin s (s.grantCensus mda) := by
  unfold State.grantCensus
  split
  · exact TicketsWithin.trans (.of_eq rfl rfl) (openExchange_tickets _ mda { s with round := some .dismiss })
  · exact TicketsWithin.trans (.of_eq rfl rfl) (openExchange_tickets _ mda { s with round := some .field })

theorem startNegotiation_tickets (a : Addr) (s : State) : TicketsWithin s (s.startNegotiation a) := .of_eq rfl rfl

theorem grantNegotiate_tickets (mda : Level) (s : State) : TicketsWithin s (s.grantNegotiate mda) := by
  have hpass : TicketsWithin s { s with passOver := s.passOverAfter, yield := false } := .of_eq rfl rfl
  unfold State.grantNegotiate
  dsimp only
  split
  · exact hpass.trans (openExchange_tickets _ mda _)
  · exact (hpass.trans (startNegotiation_tickets _ _)).trans (openExchange_tickets _ mda _)
  · exact .refl s

/-- The request that comes ON-LINE keeps its place and its ticket (R121). -/
theorem startFirst_tickets {s : State} {older rest queue : List Request} {r : Request}
    (h : s.startFirst older rest = some (r, queue)) : queue.map Request.ticket = rest.map Request.ticket := by
  obtain ⟨before, after, rfl, rfl⟩ := startFirst_some h
  simp

theorem grantDispatch_tickets (mda : Level) (s : State) : TicketsWithin s (s.grantDispatch mda) := by
  unfold State.grantDispatch
  split
  · exact .refl s
  rename_i r queue hstart
  exact TicketsWithin.trans (t := { s with passOver := 0, yield := false, queue := queue })
    (.of_tickets (startFirst_tickets hstart) rfl) (openExchange_tickets _ mda _)

theorem grant_tickets (mda : Level) (s : State) : TicketsWithin s (s.grant mda) := by
  have hset := settleYield_tickets s
  unfold State.grant
  dsimp only
  generalize s.settleYield = u at hset
  split
  · split
    · exact (hset.keep rfl rfl).trans (openExchange_tickets _ mda { u with yield := false })
    · exact .refl s
  · exact hset.trans (grantCensus_tickets mda u)
  · exact hset.trans (grantNegotiate_tickets mda u)
  · split
    · rename_i a _
      exact (hset.keep rfl rfl).trans
        (openExchange_tickets _ mda { u with passOver := u.passOverAfter, yield := false, sweepPointer := a.succ })
    · exact .refl s
  · exact hset.trans (grantDispatch_tickets mda u)
  all_goals exact .refl s

/-! ## LINE DISABLE, CLEAR, ABORT and RETIRE -/

theorem disableWaiting_tickets (s : State) : TicketsWithin s s.disableWaiting := by
  have hrun : TicketsWithin s (if s.onLineOf .census then s else s.endRunLine) := by
    split
    · exact .refl s
    · exact endRunLine_tickets s
  unfold State.disableWaiting
  dsimp only
  split
  · exact hrun
  · exact hrun.trans (abandonNegotiation_tickets _)

theorem disableLine_tickets (s : State) : TicketsWithin s s.disableLine := by
  have hwaiting := disableWaiting_tickets s
  unfold State.disableLine
  dsimp only
  split
  · exact (hwaiting.keep rfl rfl).trans (interrupt_tickets { s.disableWaiting with lineState := .draining })
  · exact hwaiting.keep rfl rfl

theorem clearTaken_tickets (s : State) : TicketsWithin s s.clearTaken := by
  have hmarked : TicketsWithin s (State.markDiscard { s.dropRun with clearing := true }).interrupt :=
    TicketsWithin.trans (.of_eq rfl rfl) (interrupt_tickets _)
  unfold State.clearTaken
  dsimp only
  split
  · exact hmarked
  · exact hmarked
  · exact .of_eq rfl rfl
  all_goals exact finishClear_tickets s

theorem abortRequest_tickets (r : Request) (s : State) : TicketsWithin s (s.abortRequest r) := by
  have hmarked : TicketsWithin s (s.markAborted r.ticket) := modifyRequest_tickets fun _ _ => rfl
  unfold State.abortRequest
  split
  · exact hmarked.trans (giveVerdict_tickets _ _ _)
  · exact hmarked.trans (giveVerdict_tickets _ _ _)
  split
  · exact .refl s
  · exact hmarked.trans (interrupt_tickets _)

theorem attentionPosted_tickets (a : Addr) (e : EventRecord) (s : State) : TicketsWithin s (s.attentionPosted a e) := by
  unfold State.attentionPosted
  split <;> exact .of_eq rfl rfl

theorem postFromStores_tickets (l : List Addr) (s : State) : TicketsWithin s (s.postFromStores l) := by
  induction l with
  | nil => exact .refl s
  | cons a rest ih =>
    unfold State.postFromStores
    split
    · exact ih
    · exact ((setStore_tickets a _ s).trans (postEvent_tickets _ _)).trans (attentionPosted_tickets a _ _)

/-- A verdict that waits is posted in the record of its request, any other item as an event (R153). -/
theorem postFirstWaiting_tickets (s : State) : TicketsWithin s s.postFirstWaiting := by
  unfold State.postFirstWaiting
  split
  · exact dropPost_tickets (by assumption) rfl
  split
  · exact TicketsWithin.trans (.of_eq rfl rfl) (postEvent_tickets _ { s with censusSlot := none })
  · exact postFromStores_tickets _ s

/-- The ticket of the record that leaves the ring is no longer live (R116, R143). -/
theorem retireHead_tickets (s : State) : TicketsWithin s s.retireHead := by
  refine TicketsWithin.trans (t := { s with ring := s.ring.tail }) (List.Sublist.subperm ?_) (postFirstWaiting_tickets _)
  exact ((List.tail_sublist s.ring).filterMap _).append_left _

/-! ## The window and the timers -/

theorem writeBinding_tickets (p : Option Binding → Bool) (row : Option Binding) (s : State) :
    TicketsWithin s (s.writeBinding p row) := by
  rcases writeBinding_cases p row s with h | ⟨i, h⟩ <;> rw [h] <;> exact .of_eq rfl rfl

theorem commitOffer_tickets (s : State) : TicketsWithin s s.commitOffer := by
  unfold State.commitOffer
  split <;> exact .of_eq rfl rfl

theorem advancePointer_tickets (s : State) : TicketsWithin s s.advancePointer := by
  unfold State.advancePointer
  split <;> exact .of_eq rfl rfl

theorem storeByte_tickets (v : Byte) (s : State) : TicketsWithin s (s.storeByte v) := by
  unfold State.storeByte
  split <;> exact .of_eq rfl rfl

theorem writeTableByte_tickets (v : Byte) (s : State) : TicketsWithin s (s.writeTableByte v) := by
  unfold State.writeTableByte
  split
  · exact (storeByte_tickets v s).trans (advancePointer_tickets _)
  · exact .refl s

theorem writePlain_tickets (r : Register) (v : Byte) (s : State) : TicketsWithin s (s.writePlain r v) := by
  cases r <;> exact .of_eq rfl rfl

theorem elapse_tickets (s : State) : TicketsWithin s s.elapse := by
  have htick (t : State) : TicketsWithin t t.elapseTick := by
    unfold State.elapseTick
    split
    · split <;> exact .of_eq rfl rfl
    · exact .refl t
  have hauto (t : State) : TicketsWithin t t.elapseAuto := by
    unfold State.elapseAuto
    split
    · exact .refl t
    split
    · split <;> exact .of_eq rfl rfl
    · exact .refl t
  have hhold : TicketsWithin s s.elapseHoldOffs := .of_eq rfl rfl
  unfold State.elapse State.unlessReset
  split
  · exact .refl s
  · exact (hhold.trans (htick _)).trans (hauto _)

end Sys2Proof.Machine
end

section
/-! PROOF. The ticket that SUBMIT gives (R116): the first from the counter on that no live request holds. With it every step
keeps the tickets of live requests distinct (O55). -/

namespace Sys2Proof.Machine

/-! ## The ticket that is given -/

/-- The ticket `k` past the counter, wrapping from 255 to 0 (R116). -/
def State.ticketPast (s : State) (k : Nat) : Byte := s.ticketCounter + BitVec.ofNat 8 k

theorem ticketLive_iff (s : State) (t : Byte) : s.ticketLive t = true ↔ t ∈ s.liveTickets := by
  simp [State.ticketLive, State.liveTickets]

/-- The tickets within 256 of the counter are distinct. -/
theorem ticketPast_inj {s : State} {i j : Nat} (hi : i < 256) (hj : j < 256) (h : s.ticketPast i = s.ticketPast j) :
    i = j := by
  have hofNat : BitVec.ofNat 8 i = BitVec.ofNat 8 j := (BitVec.add_right_inj _).mp h
  simpa [BitVec.toNat_ofNat, Nat.mod_eq_of_lt hi, Nat.mod_eq_of_lt hj] using congrArg BitVec.toNat hofNat

/-- With 32 live tickets at most, one of the first 33 is free. -/
theorem exists_ticketPast_free {s : State} (h : s.liveTickets.length ≤ 32) :
    ∃ k < 33, s.ticketPast k ∉ s.liveTickets := by
  by_contra hall
  push Not at hall
  have hnodup : ((List.range 33).map s.ticketPast).Nodup :=
    List.Nodup.map_on (fun i hi j hj => ticketPast_inj (by simp at hi; omega) (by simp at hj; omega)) List.nodup_range
  have hsub : (List.range 33).map s.ticketPast ⊆ s.liveTickets := fun t ht => by
    obtain ⟨k, hk, rfl⟩ := List.mem_map.mp ht
    exact hall k (List.mem_range.mp hk)
  have hlength : 33 ≤ s.liveTickets.length := by simpa using (List.subperm_of_subset hnodup hsub).length_le
  omega

/-- SUBMIT gives the first free ticket from the counter on. -/
theorem nextTicket_eq {s : State} {k : Nat} (hk : k < 256) (hfree : s.ticketPast k ∉ s.liveTickets)
    (hlive : ∀ j < k, s.ticketPast j ∈ s.liveTickets) : s.nextTicket = s.ticketPast k := by
  have hfind : (List.range 256).find? ((fun t => !s.ticketLive t) ∘ s.ticketPast) = some k := by
    rw [List.find?_range_eq_some]
    refine ⟨?_, List.mem_range.mpr hk, fun j hj => ?_⟩
    · simpa [← ticketLive_iff] using hfree
    · simpa [ticketLive_iff] using hlive j hj
  show (((List.range 256).map s.ticketPast).find? fun t => !s.ticketLive t).getD s.ticketCounter = s.ticketPast k
  rw [List.find?_map, hfind]
  rfl

/-- Where at most 32 tickets are live, SUBMIT gives the first free one, one of the first 33 (R116). -/
theorem exists_nextTicket {s : State} (h : s.liveTickets.length ≤ 32) : ∃ k < 33, s.ticketPast k ∉ s.liveTickets ∧
    (∀ j < k, s.ticketPast j ∈ s.liveTickets) ∧ s.nextTicket = s.ticketPast k := by
  have hex := exists_ticketPast_free h
  obtain ⟨hk, hfree⟩ := Nat.find_spec hex
  have hlive : ∀ j < Nat.find hex, s.ticketPast j ∈ s.liveTickets := fun j hj => by
    by_contra hn
    exact Nat.find_min hex hj ⟨by omega, hn⟩
  exact ⟨Nat.find hex, hk, hfree, hlive, nextTicket_eq (by omega) hfree hlive⟩

/-- At most as many tickets are live as the queue and the ring have places (R116). -/
theorem liveTickets_length {s : State} (hq : s.queue.length ≤ 16) (hr : s.ring.length ≤ 16) :
    s.liveTickets.length ≤ 32 := by
  have := List.length_filterMap_le Record.ticket? s.ring
  rw [State.liveTickets, List.length_append, List.length_map]
  omega

/-! ## Every step -/

/-- No ticket is live after that was not before, but for the one that SUBMIT would give, and none more often. -/
def IssuesTicket (s t : State) : Prop := t.liveTickets.Subperm (s.nextTicket :: s.liveTickets)

theorem TicketsWithin.issues {s t : State} (h : TicketsWithin s t) : IssuesTicket s t := List.Subperm.cons_right _ h

/-- Distinct tickets stay distinct, as the ticket that is given is free (R116). -/
theorem IssuesTicket.ticketLaw {s t : State} (h : IssuesTicket s t) (hs : s.TicketLaw) (hq : s.queue.length ≤ 16)
    (hr : s.ring.length ≤ 16) : t.TicketLaw := by
  obtain ⟨k, -, hfree, -, hnext⟩ := exists_nextTicket (liveTickets_length hq hr)
  obtain ⟨l, hperm, hsub⟩ := h
  exact hperm.nodup_iff.mp (hsub.nodup (List.nodup_cons.mpr ⟨hnext ▸ hfree, hs⟩))

/-- A taken SUBMIT makes the ticket that it gives live (R115). -/
theorem submitRequest_issues (s : State) : IssuesTicket s s.submitRequest := by
  unfold State.submitRequest
  split
  · exact (TicketsWithin.refl s).issues
  · rename_i kind _
    have hlive : ({ s with
        queue := s.queue ++ [s.stagedRequest s.nextTicket kind], ticketCounter := s.nextTicket + 1 } : State).liveTickets =
        s.queue.map Request.ticket ++ s.nextTicket :: s.ring.filterMap Record.ticket? := by
      simp [State.liveTickets, State.stagedRequest]
    rw [IssuesTicket, hlive]
    exact List.perm_middle.subperm

/-- What an outcome leaves makes at most the ticket live that SUBMIT would give. -/
def Issues (s : State) (o : Host.Outcome State Fault Refusal) : Prop := ∀ t, o = .next t → IssuesTicket s t

theorem IssuesTicket.next {s t : State} (h : IssuesTicket s t) : Issues s (.next t) :=
  fun _ ht => Host.Outcome.next.inj ht ▸ h

section
variable {s : State}

theorem TicketsWithin.unlessReset {t : State} (h : TicketsWithin s t) : Issues s (.next (s.unlessReset t)) := by
  refine IssuesTicket.next ?_
  unfold State.unlessReset
  split
  · exact (TicketsWithin.refl s).issues
  · exact h.issues

/-- A command makes live what its effects make live. -/
theorem command_issues {refusal : Option ResultCode} {effect : State} {argument : Byte} (h : IssuesTicket s effect) :
    Issues s (.next (s.command refusal effect argument)) := by
  refine IssuesTicket.next ?_
  unfold State.command State.unlessReset
  split
  · exact (TicketsWithin.refl s).issues
  split
  · exact TicketsWithin.issues (.of_eq rfl rfl)
  split
  · exact TicketsWithin.issues (.of_eq rfl rfl)
  · exact h

theorem command_tickets {refusal : Option ResultCode} {effect : State} {argument : Byte} (h : TicketsWithin s effect) :
    Issues s (.next (s.command refusal effect argument)) := command_issues h.issues

theorem execAbort_issues : Issues s (execAbort s) := by
  unfold execAbort
  cases s.request? s.args[0] with
  | none => exact command_tickets (.refl s)
  | some r => exact command_tickets (abortRequest_tickets r s)

theorem execRelease_issues : Issues s (execRelease s) := by
  unfold execRelease
  cases s.argAddress with
  | none => exact command_tickets (.refl s)
  | some a => exact command_tickets (releaseEntry_tickets a s)

theorem execRenegotiate_issues : Issues s (execRenegotiate s) := by
  unfold execRenegotiate
  cases s.argAddress with
  | none => exact command_tickets (.refl s)
  | some a => exact command_tickets (enterPending_tickets a s)

theorem writeBind_tickets (a : Addr) (u : UnitNumber) : TicketsWithin s (s.writeBind a u) := by
  unfold State.writeBind
  split
  · exact .refl s
  · exact writeBinding_tickets _ _ s

theorem execBind_issues : Issues s (execBind s) := by
  unfold execBind
  cases s.argAddress with
  | none => exact command_tickets (.refl s)
  | some a => exact command_tickets (writeBind_tickets a _)

theorem execUnbind_issues : Issues s (execUnbind s) := by
  unfold execUnbind
  cases s.argAddress with
  | none => exact command_tickets (.refl s)
  | some a => exact command_tickets (writeBinding_tickets _ _ s)

theorem writeCommand_issues (code : Byte) : Issues s (s.writeCommand code) := by
  unfold State.writeCommand
  split
  · exact command_tickets (.of_eq rfl rfl)
  · exact command_tickets (disableLine_tickets s)
  · exact command_tickets (.of_eq rfl rfl)
  · exact command_tickets (.of_eq rfl rfl)
  · exact command_tickets (stopRun_tickets s)
  · exact command_issues (submitRequest_issues s)
  · exact execAbort_issues
  · exact command_tickets (retireHead_tickets s)
  · exact execRelease_issues
  · exact execRenegotiate_issues
  · exact execBind_issues
  · exact execUnbind_issues
  · exact command_tickets (commitOffer_tickets s)
  · exact command_tickets (clearTaken_tickets s)
  · exact TicketsWithin.unlessReset (.of_eq rfl rfl)

theorem writeRegister_issues (r : Register) (v : Byte) : Issues s (s.writeRegister r v) := by
  unfold State.writeRegister
  split
  case h_1 => exact writeCommand_issues v
  case h_4 => exact (writeTableByte_tickets v s).unlessReset
  case h_2 | h_3 | h_5 | h_6 | h_7 | h_8 | h_9 => exact TicketsWithin.unlessReset (.of_eq rfl rfl)
  all_goals exact (writePlain_tickets _ v s).unlessReset

theorem execTabdataRead_issues : Issues s (execTabdataRead s) := by
  refine IssuesTicket.next (TicketsWithin.issues ?_)
  split
  · exact .of_eq rfl rfl
  · exact (advancePointer_tickets s).keep rfl rfl

/-! ## Events -/

/-- An event that acts where its condition holds makes no ticket live if it makes none live there. -/
theorem issues_of_ite {p : Prop} [Decidable p] {t : State} (h : TicketsWithin s t) :
    Issues s (.next (s.unlessReset (if p then t else s))) := by
  refine TicketsWithin.unlessReset ?_
  split
  · exact h
  · exact .refl s

/-- An event of the exchange on the line makes no ticket live if what it does to the exchange makes none live. -/
theorem issues_of_exchange {p : Exchange → Bool} {act : Exchange → State} (h : ∀ x, TicketsWithin s (act x)) :
    Issues s (.next (s.unlessReset (match s.exchangeIn p with | some x => act x | none => s))) := by
  refine TicketsWithin.unlessReset ?_
  cases s.exchangeIn p with
  | none => exact .refl s
  | some x => exact h x

theorem execHoldOffEnd_issues (n : Nat) : Issues s (execHoldOffEnd n s) := by
  refine TicketsWithin.unlessReset ?_
  split <;> exact .of_eq rfl rfl

theorem execClockFault_issues : Issues s (execClockFault s) := by
  refine TicketsWithin.unlessReset ?_
  split
  · exact .of_eq rfl rfl
  split
  · exact lineFault_tickets _ s
  · exact .refl s

theorem execResponseFrame_issues (wire : List Byte) (tail : Level) : Issues s (execResponseFrame wire tail s) := by
  refine TicketsWithin.unlessReset ?_
  split
  · exact .refl s
  split
  · exact acceptAnswer_tickets _ _ s
  · exact attemptFails_tickets _ _ s

theorem execFieldEnd_issues (u : UnitNumber) (check : Byte) (mda : Level) : Issues s (execFieldEnd u check mda s) := by
  refine TicketsWithin.unlessReset ?_
  split
  · exact .refl s
  split
  · exact endExchange_tickets _ s
  · exact judgeField_tickets _ u check mda s

/-- Of all commands and events only SUBMIT makes a ticket live, the one that it gives (R115, R116). -/
theorem exec_issues (c : Instr) : Issues s (exec c s) :=
  match c with
  | .lineEnable => command_tickets (.of_eq rfl rfl)
  | .lineDisable => command_tickets (disableLine_tickets s)
  | .lineRecover => command_tickets (.of_eq rfl rfl)
  | .censusStart => command_tickets (.of_eq rfl rfl)
  | .censusStop => command_tickets (stopRun_tickets s)
  | .submit => command_issues (submitRequest_issues s)
  | .abort => execAbort_issues
  | .retire => command_tickets (retireHead_tickets s)
  | .release => execRelease_issues
  | .renegotiate => execRenegotiate_issues
  | .bind => execBind_issues
  | .unbind => execUnbind_issues
  | .commitOffer => command_tickets (commitOffer_tickets s)
  | .clear => command_tickets (clearTaken_tickets s)
  | .badCommand code => writeCommand_issues code
  | .tabselWrite _ => TicketsWithin.unlessReset (.of_eq rfl rfl)
  | .tabidxWrite _ => TicketsWithin.unlessReset (.of_eq rfl rfl)
  | .tabdataRead => execTabdataRead_issues
  | .tabdataWrite v => (writeTableByte_tickets v s).unlessReset
  | .causeWrite _ => TicketsWithin.unlessReset (.of_eq rfl rfl)
  | .enableWrite _ => TicketsWithin.unlessReset (.of_eq rfl rfl)
  | .sweepivlWrite _ => TicketsWithin.unlessReset (.of_eq rfl rfl)
  | .misslimWrite _ => TicketsWithin.unlessReset (.of_eq rfl rfl)
  | .autocensusWrite _ => TicketsWithin.unlessReset (.of_eq rfl rfl)
  | .registerWrite address v => writeRegister_issues (registerAt address) v
  | .hardwareReset => IssuesTicket.next (TicketsWithin.issues List.nil_subperm)
  | .sweepTick => issues_of_ite (.of_eq rfl rfl)
  | .autoCensusExpiry => issues_of_ite (.of_eq rfl rfl)
  | .holdOffEnd n => execHoldOffEnd_issues n
  | .lineGrant mda => issues_of_ite (grant_tickets mda s)
  | .clearDismiss mda => issues_of_ite (openExchange_tickets _ mda s)
  | .lineCheckCleared => issues_of_exchange fun x => leadIn_tickets x s
  | .clearWaitExpiry => issues_of_exchange (act := fun _ => s.lineFault .stuck) fun _ => lineFault_tickets .stuck s
  | .contention => issues_of_exchange fun x => attemptFails_tickets x .contention s
  | .clockFault => execClockFault_issues
  | .commandSent => issues_of_exchange fun x => commandTail_tickets x s
  | .replyWindowExpiry => issues_of_exchange fun x => attemptFails_tickets x .noAnswer s
  | .responseFrame wire tail => execResponseFrame_issues wire tail
  | .retryGapEnd mda => issues_of_exchange fun x => lineCheck_tickets x mda s
  | .fieldEnd u check mda => execFieldEnd_issues u check mda
  | .recoverySuccess => issues_of_ite (.of_eq rfl rfl)
  | .recoveryTimeout => issues_of_ite (.of_eq rfl rfl)
  | .resetRelease => IssuesTicket.next (TicketsWithin.issues (.of_eq rfl rfl))

end

theorem step_issues {s t : State} (h : step s = .next t) : IssuesTicket s t := by
  unfold step at h
  split at h
  · exact Host.Outcome.next.inj h ▸ (elapse_tickets s).issues
  · rename_i c rest _
    exact exec_issues (s := { s with pending := rest }) c t h

/-- Settles O55: a step makes no ticket live but the one that SUBMIT gives, and that one is free, as at most 32 are live. -/
theorem ticketLawKept : Obligations.TicketLawKept := fun s _ hs hocc hqueue h =>
  (step_issues h).ticketLaw hs hqueue ((Nat.le_add_right s.ring.length s.reservations).trans hocc.1)

end Sys2Proof.Machine
end

section
/-! PROOF. SUBMIT: the refusals in their order (O15), and the request that a taken one appends (O16). -/

namespace Sys2Proof.Machine

/-! ## The checks of the staging row (R114) -/

theorem aboveLimit_iff {terms : Option Terms} {length : Nat} :
    aboveLimit terms length = true ↔ ∃ t, terms = some t ∧ t.payloadLimit.bytes < length := by
  cases terms <;> simp [aboveLimit]

theorem outsideRange_iff {objects : Option ObjectRange} {object : Byte} :
    outsideRange objects object = true ↔ ∃ r, objects = some r ∧ (object < r.lowest ∨ r.highest < object) := by
  cases objects <;> simp [outsideRange]

theorem requestKind_ofCode?_code (kind : RequestKind) : RequestKind.ofCode? kind.code = some kind := by
  cases kind <;> rfl

theorem requestKind_isNone_iff (code : Byte) : (RequestKind.ofCode? code).isNone = true ↔ code ≠ 1 ∧ code ≠ 2 := by
  unfold RequestKind.ofCode?
  split
  next h1 => simp [h1]
  split
  next h2 => simp [h2]
  next h1 h2 => exact iff_of_true rfl ⟨h1, h2⟩

theorem requestKind_read_iff (code : Byte) : RequestKind.ofCode? code = some .read ↔ code = 2 := by
  unfold RequestKind.ofCode?
  split
  next h1 => simp [h1]
  split
  next h2 => simp [h2]
  next h2 => exact iff_of_false (by simp) h2

/-- The fourth check, in the words of R114. -/
theorem stagedBad_iff (s : State) : s.stagedBad = true ↔ (s.staging[0] ≠ 1 ∧ s.staging[0] ≠ 2) ∨
    24 < s.staging[1].toNat ∨ (s.staging[0] = 2 ∧ s.staging[1].toNat = 0) ∨ 16 < s.staging[3].toNat := by
  simp only [State.stagedBad, Bool.or_eq_true, Bool.and_eq_true, decide_eq_true_eq, beq_iff_eq, requestKind_isNone_iff,
    requestKind_read_iff, or_assoc]
  rfl

/-! ## The first refusal -/

section
variable {s : State}

theorem submitRefusal_line (h : s.lineState = .fault ∨ s.lineState = .recovering) : s.submitRefusal = some .lineFault := by
  rcases h with h | h <;> simp [State.submitRefusal, h, firstRefusal]

/-- On a line without a fault, the queue and the staging row decide, and then the entry. -/
theorem submitRefusal_eq (hf : s.lineState ≠ .fault) (hr : s.lineState ≠ .recovering) : s.submitRefusal =
    if 16 ≤ s.queue.length then some .queueFull else if s.stagedBad then some .badRequest else s.stagedEntryRefusal := by
  by_cases hq : 16 ≤ s.queue.length <;> cases hb : s.stagedBad <;>
    simp [State.submitRefusal, firstRefusal, Config.queueLimit, hf, hr, hq, hb]

/-- The request's entry decides by its state, its terms and its objects (R114 steps 5 to 7). -/
theorem stagedEntryRefusal_number {a : Addr} (h : s.staging[1].toNat = a.number) : s.stagedEntryRefusal =
    if (s.entry a).state ≠ .active ∧ (s.entry a).state ≠ .pending ∧ (s.entry a).state ≠ .negotiating then some .noNode
    else if aboveLimit (s.entry a).terms s.staging[3].toNat then some .tooLong
    else if outsideRange (s.entry a).objects s.staging[2] then some .outOfRange else none := by
  have haddr : Addr.ofNumber? s.stagedAddress = some a := (congrArg _ h).trans (ofNumber?_number a)
  simp [State.stagedEntryRefusal, haddr, firstRefusal, State.stagedLength, and_assoc]
  congr

/-- The all-call has no entry to ask (R114). -/
theorem stagedEntryRefusal_allCall (h : s.staging[1].toNat = 0) : s.stagedEntryRefusal = none := by
  have haddr : Addr.ofNumber? s.stagedAddress = none := by
    rw [State.stagedAddress, h]
    rfl
  simp [State.stagedEntryRefusal, haddr]

theorem exec_submit (s : State) : exec .submit s = .next (s.command s.submitRefusal s.submitRequest s.nextTicket) := rfl

/-- A SUBMIT that meets a refusal changes RESULT and RESULTARG alone (R177). -/
theorem refuses_submit {r : ResultCode} (h : s.Open) (hr : s.submitRefusal = some r) : Refuses .submit s r.code :=
  refuses_of_command h (hr ▸ exec_submit s)

end

/-- Settles O15: the first refusal by the line, the queue, the staging row and the request's entry, in this order. -/
theorem submitRefusals : Obligations.SubmitRefusals := by
  refine fun s h => ⟨fun hl => refuses_submit h (submitRefusal_line hl), fun hf hr => ⟨fun hq => ?_, fun hq =>
    ⟨fun hbad => ?_, fun hgood a ha => ?_⟩⟩⟩
  · exact refuses_submit h (by rw [submitRefusal_eq hf hr, if_pos hq])
  · exact refuses_submit h (by rw [submitRefusal_eq hf hr, if_neg (by omega), if_pos ((stagedBad_iff s).mpr hbad)])
  have hentry : s.submitRefusal = s.stagedEntryRefusal := by
    rw [submitRefusal_eq hf hr, if_neg (by omega), if_neg (mt (stagedBad_iff s).mp hgood)]
  rw [stagedEntryRefusal_number ha] at hentry
  refine ⟨fun hact hpen hneg => refuses_submit h (hentry.trans (if_pos ⟨hact, hpen, hneg⟩)), fun hstate => ?_⟩
  rw [if_neg (by rintro ⟨hact, hpen, hneg⟩; simp [hact, hpen, hneg] at hstate)] at hentry
  refine ⟨fun t ht hlong => refuses_submit h (hentry.trans (if_pos (aboveLimit_iff.mpr ⟨t, ht, hlong⟩))),
    fun hshort r hobj hout => ?_⟩
  have hfits : ¬aboveLimit (s.entry a).terms s.staging[3].toNat = true := fun k => by
    obtain ⟨t, ht, hlong⟩ := aboveLimit_iff.mp k
    exact absurd (hshort t ht) (by omega)
  rw [if_neg hfits, if_pos (outsideRange_iff.mpr ⟨r, hobj, hout⟩)] at hentry
  exact refuses_submit h hentry

/-! ## A taken SUBMIT -/

/-- The entry of a request for a node takes it, where its state, its terms and its objects allow it (R114). -/
theorem stagedEntryRefusal_none {s : State} (haddr : s.staging[1].toNat ≤ 24)
    (hentry : ∀ a : Addr, s.staging[1].toNat = a.number →
      ((s.entry a).state = .active ∨ (s.entry a).state = .pending ∨ (s.entry a).state = .negotiating) ∧
      (∀ t, (s.entry a).terms = some t → s.staging[3].toNat ≤ t.payloadLimit.bytes) ∧
      ∀ r, (s.entry a).objects = some r → r.lowest ≤ s.staging[2] ∧ s.staging[2] ≤ r.highest) :
    s.stagedEntryRefusal = none := by
  by_cases hzero : s.staging[1].toNat = 0
  · exact stagedEntryRefusal_allCall hzero
  have hnumber : s.staging[1].toNat = Addr.number ⟨s.staging[1].toNat - 1, by omega⟩ := by
    simp only [Addr.number]
    omega
  obtain ⟨hstate, hterms, hobjects⟩ := hentry _ hnumber
  rw [stagedEntryRefusal_number hnumber, if_neg, if_neg, if_neg]
  · rw [outsideRange_iff]
    rintro ⟨r, hr, hout⟩
    obtain ⟨hlow, hhigh⟩ := hobjects r hr
    exact hout.elim (BitVec.not_lt.mpr hlow) (BitVec.not_lt.mpr hhigh)
  · rw [aboveLimit_iff]
    rintro ⟨t, ht, hlong⟩
    exact absurd (hterms t ht) (by omega)
  · rintro ⟨hact, hpen, hneg⟩
    simp [hact, hpen, hneg] at hstate

/-- The staging row names a kind, an address and a length that SUBMIT takes (R114 step 4). -/
theorem stagedBad_of_kind {s : State} {kind : RequestKind} (hkind : s.staging[0] = kind.code)
    (haddr : s.staging[1].toNat ≤ 24) (hlength : s.staging[3].toNat ≤ 16) (hread : kind = .read → s.staging[1] ≠ 0) :
    ¬s.stagedBad = true := by
  rw [stagedBad_iff, hkind]
  rintro (⟨hwrite, hread'⟩ | hhigh | ⟨htwo, hzero⟩ | hlong)
  · cases kind <;> simp [RequestKind.code] at hwrite hread'
  · omega
  · cases kind
    · simp [RequestKind.code] at htwo
    · exact hread rfl (BitVec.eq_of_toNat_eq hzero)
  · omega

/-- A taken SUBMIT appends the staged request and advances the counter (R115, R116). -/
theorem submitRequest_kind {s : State} {kind : RequestKind} (h : s.staging[0] = kind.code) : s.submitRequest = { s with
    queue := s.queue ++ [s.stagedRequest s.nextTicket kind], ticketCounter := s.nextTicket + 1 } := by
  simp [State.submitRequest, h, requestKind_ofCode?_code]

/-- Settles O16: no check refuses, and the ticket is the first from the counter on that is free, as at most 31 are live. -/
theorem submitAppendsWithTicket : Obligations.SubmitAppendsWithTicket := by
  intro s kind h hf hr hqueue hring hkind haddr hlength hread hentry
  obtain ⟨k, hk, hfree, hlive, hnext⟩ := exists_nextTicket (liveTickets_length hqueue.le hring)
  have hnone : s.submitRefusal = none := by
    rw [submitRefusal_eq hf hr, if_neg (by omega), if_neg (stagedBad_of_kind hkind haddr hlength hread)]
    exact stagedEntryRefusal_none haddr hentry
  refine ⟨k, hk, hfree, hlive, ?_⟩
  rw [exec_submit, hnone, command_taken _ _ h.1 h.2, submitRequest_kind hkind, hnext]
  rfl

end Sys2Proof.Machine
end

section
/-! PROOF. The byte layouts of the ROSTER, BINDING, QUEUE and RING rows (O46). -/

namespace Sys2Proof.Machine

/-! ## Places in a row -/

/-- A byte behind a row's head. -/
theorem getD_append_behind (head tail : List Byte) (k : Nat) : (head ++ tail).getD (head.length + k) 0 = tail.getD k 0 := by
  rw [List.getD_append_right _ _ _ _ (by omega), Nat.add_sub_cancel_left]

/-- A padded list holds its bytes, and 0 beyond them (R193). -/
theorem padded_getD {n k : Nat} (l : List Byte) (h : k < n) : (padded n l).getD k 0 = l.getD k 0 := by
  simp [padded, List.getD_eq_getElem?_getD, h]

/-- A flag stands at its own position alone. -/
theorem flagBit_getLsbD (p i : Fin 8) (b : Bool) : (flagBit p.val b).getLsbD i.val = (b && decide (i = p)) := by
  revert p i b
  decide

/-! ## The ROSTER row -/

/-- The device class as a word, 0xFFFF when absent (R193). -/
def classWord (c : Option (BitVec 12)) : BitVec 16 := match c with | some v => v.setWidth 16 | none => 0xFFFF

theorem classBytes_eq (c : Option (BitVec 12)) : classBytes c = wordBytes (classWord c) := by cases c <;> rfl

/-- The ROSTER row, byte by byte. -/
theorem entryRow_eq (e : Entry) : e.row = e.state.code :: unitBytes e.unit ++ [e.flagByte, e.condition.code,
    BitVec.ofNat 8 e.misses, limitByte e.terms, pollByte e.terms, BitVec.ofNat 8 e.pages.length] ++
    e.pageBytes ++ wordBytes (classWord e.deviceClass) ++ rangeBytes e.objects := by
  rw [Entry.row, classBytes_eq]
  rfl

/-- The attention state stands in bits 5 and 4 alone. -/
theorem attentionCode_getLsbD (a : AttentionState) (i : Fin 8) (h : i ≠ 4 ∧ i ≠ 5) :
    (a.code <<< 4).getLsbD i.val = false := by
  revert i
  cases a <;> decide

/-- Bits 5 and 4 hold no flag. -/
theorem flagBit_middle (b : Bool) : ∀ p ∈ [0, 1, 2, 3, 6, 7], (flagBit p b).extractLsb' 4 2 = 0 := by
  cases b <;> decide

/-- A bit of byte 6 outside bits 5 and 4 is the flag that stands there. -/
theorem flagByte_getLsbD (e : Entry) (i : Fin 8) (h : i ≠ 4 ∧ i ≠ 5) : e.flagByte.getLsbD i.val =
    ((e.toggle && decide (i = 0)) || (e.terms.isSome && decide (i = 1)) ||
      (e.terms.any (fun t => t.attention) && decide (i = 2)) || (e.terms.any (fun t => t.confirm) && decide (i = 3)) ||
      (e.holdOff.isSome && decide (i = 6)) || (e.due && decide (i = 7))) := by
  simp only [Entry.flagByte, BitVec.getLsbD_or, attentionCode_getLsbD _ i h, Bool.or_false, Entry.inHoldOff,
    ← flagBit_getLsbD]
  rfl

/-- The flags of byte 6, each at its place (R193). -/
theorem flagByte_flags (e : Entry) : e.flagByte.getLsbD 0 = e.toggle ∧ e.flagByte.getLsbD 1 = e.terms.isSome ∧
    e.flagByte.getLsbD 2 = e.terms.any (fun t => t.attention) ∧ e.flagByte.getLsbD 3 = e.terms.any (fun t => t.confirm) ∧
    e.flagByte.getLsbD 6 = e.holdOff.isSome ∧ e.flagByte.getLsbD 7 = e.due := by
  have hbit := flagByte_getLsbD e
  refine ⟨(hbit 0 (by decide)).trans ?_, (hbit 1 (by decide)).trans ?_, (hbit 2 (by decide)).trans ?_,
    (hbit 3 (by decide)).trans ?_, (hbit 6 (by decide)).trans ?_, (hbit 7 (by decide)).trans ?_⟩ <;> simp

/-- Bits 5 and 4 of byte 6 are the attention state. -/
theorem flagByte_attention (e : Entry) : e.flagByte.extractLsb' 4 2 = (e.attention.code <<< 4).extractLsb' 4 2 := by
  simp [Entry.flagByte, BitVec.extractLsb'_or, flagBit_middle]

/-- The eight words of the node pages, at their places behind the row's head (R193). -/
theorem entryRow_page (e : Entry) (k : Fin 8) :
    e.row.getD (12 + 2 * k.val) 0 ++ e.row.getD (13 + 2 * k.val) 0 = e.pages.getD k.val 0 := by
  rw [entryRow_eq]
  fin_cases k <;> exact wordOfBytes_wordBytes _

/-- The word of the device class (R193). -/
theorem entryRow_class (e : Entry) : e.row.getD 28 0 ++ e.row.getD 29 0 = classWord e.deviceClass := by
  rw [entryRow_eq]
  exact wordOfBytes_wordBytes _

/-- The object range stands behind the device class (R193). -/
theorem entryRow_range (e : Entry) (k : Fin 2) : e.row.getD (30 + k.val) 0 = (rangeBytes e.objects).getD k.val 0 := by
  rw [entryRow_eq]
  fin_cases k <;> rfl

/-- A count in one byte. -/
theorem toNat_ofNat_byte {n : Nat} (h : n < 256) : (BitVec.ofNat 8 n).toNat = n := by
  rw [BitVec.toNat_ofNat, Nat.mod_eq_of_lt h]

/-! ## The RING rows -/

/-- Byte 5 of a request record: the attempts in its low nibble and abort-requested in bit 7. -/
theorem attemptsByte_parts (r : RequestRecord) (h : r.attempts ≤ 15) : (r.attemptsByte &&& 0x0F).toNat = r.attempts ∧
    r.attemptsByte &&& 0x70 = 0 ∧ r.attemptsByte.getLsbD 7 = r.abortRequested := by
  have hparts : ∀ (n : Fin 16) (b : Bool), ((BitVec.ofNat 8 n.val ||| flagBit 7 b) &&& 0x0F).toNat = n.val ∧
      (BitVec.ofNat 8 n.val ||| flagBit 7 b) &&& 0x70 = 0 ∧ (BitVec.ofNat 8 n.val ||| flagBit 7 b).getLsbD 7 = b := by
    decide
  exact hparts ⟨r.attempts, by omega⟩ r.abortRequested

/-- The payload of a request record, from byte 8. -/
theorem requestRecord_payload (r : RequestRecord) (k : Fin 16) :
    (Record.request r).row.getD (8 + k.val) 0 = r.payload.getD k.val 0 :=
  (getD_append_behind [0x01, addressByte r.address, r.ticket, r.result.code, r.reason.setWidth 8, r.attemptsByte,
    BitVec.ofNat 8 r.payload.length, BitVec.ofNat 8 r.waits] _ k.val).trans (padded_getD _ k.isLt)

/-- The data of an event record, from byte 7. -/
theorem eventRecord_data (e : EventRecord) (k : Fin 17) :
    (Record.event e).row.getD (7 + k.val) 0 = e.data.bytes.getD k.val 0 :=
  (getD_append_behind ([e.data.code, addressByte e.address] ++ unitBytes e.unit) _ k.val).trans (padded_getD _ k.isLt)

/-- The two permissions of a JOINED record. -/
theorem termFlags_eq (t : Terms) : flagBit 0 t.attention ||| flagBit 1 t.confirm =
    (if t.attention then 1 else 0) + (if t.confirm then 2 else 0) := by
  cases t.attention <;> cases t.confirm <;> rfl

/-- Settles O46: each row is written out byte by byte, and each code of the model is the one of its table. -/
theorem tableRowLayouts : Obligations.TableRowLayouts := by
  unfold Obligations.TableRowLayouts
  intro address unit bytes ticks condition word classOf completion
  have haddress (a : Option Addr) : addressByte a = address a := by cases a <;> rfl
  have hbytes (l : LengthClass) : BitVec.ofNat 8 l.bytes = bytes l := by cases l <;> rfl
  have hticks (p : PollClass) : BitVec.ofNat 8 p.ticks = ticks p := by cases p <;> rfl
  have hcondition (c : Condition) : c.code = condition c := by cases c <;> rfl
  have hclass (c : Option (BitVec 12)) : classWord c = classOf c := by cases c <;> rfl
  have hcompletion (c : Completion) : c.code = completion c := by cases c <;> rfl
  refine ⟨fun e hmisses hpages => ?_, rfl, fun b => rfl, fun r => ?_, fun r hattempts hpayload => ?_, fun e => ?_⟩
  · obtain ⟨htoggle, hterms, hattention, hconfirm, hholdOff, hdue⟩ := flagByte_flags e
    refine ⟨length_entryRow e, ?_, rfl, htoggle, hterms, hattention, hconfirm, (flagByte_attention e).trans ?_, hholdOff,
      hdue, hcondition _, toNat_ofNat_byte (by omega), ?_, ?_, toNat_ofNat_byte (by omega), entryRow_page e,
      (entryRow_class e).trans (hclass _), (entryRow_range e 0).trans ?_, (entryRow_range e 1).trans ?_⟩
    · show e.state.code = _
      cases e.state <;> rfl
    · cases e.attention <;> rfl
    · show limitByte e.terms = _
      cases e.terms with
      | none => rfl
      | some t => exact hbytes _
    · show pollByte e.terms = _
      cases e.terms with
      | none => rfl
      | some t => exact hticks _
    · cases e.objects <;> rfl
    · cases e.objects <;> rfl
  · simp only [Request.row, haddress, List.cons.injEq, true_and, and_true]
    refine ⟨?_, ?_, ?_⟩
    · cases r.kind <;> rfl
    · cases r.phase <;> rfl
    · cases r.verdict with
      | none => rfl
      | some v => exact hcompletion v
  · obtain ⟨hcount, hzero, hflag⟩ := attemptsByte_parts r hattempts
    refine ⟨length_recordRow _, ?_, hcount, hzero, hflag, toNat_ofNat_byte (by omega), rfl, requestRecord_payload r⟩
    rw [← haddress, ← hcompletion]
    rfl
  · refine ⟨length_recordRow _, ?_, fun k => (eventRecord_data e k).trans ?_⟩
    · rw [← haddress]
      show e.data.code :: _ = _
      cases e.data <;> rfl
    · congr 1
      cases e.data with
      | joined t c =>
        simp only [EventData.bytes, limitByte, pollByte, hbytes, hticks, termFlags_eq, classBytes_eq, hclass]
        rfl
      | refused reason => cases reason <;> rfl
      | condition c => exact congrArg (fun b => [b]) (hcondition c)
      | censusEnd outcome claims => cases outcome <;> rfl
      | lost | back | restarted | released | attention => rfl

end Sys2Proof.Machine
end

section
/-! PROOF. What keeps the bounds of the queue and the ring (R117, R141) and the laws of the pending-event stores (R146, R148 to
R150), as one relation between the state before and after, which composes; and its rules for the entries, the events, the
verdicts and the requests. -/

namespace Sys2Proof.Machine

/-! ## A store and its entry -/

/-- A store fits its entry: an attention event waits exactly while the entry's attention state is HELD, a RELEASING entry has
none, and every slot holds an event of its own kind. -/
structure Store.Fits (st : Store) (e : Entry) : Prop where
  held : st.attention.isSome = true ↔ e.attention = .held
  releasing : e.state = .releasing → e.attention = .none
  status : ∀ ev, st.status = some ev → (∀ c, ev.data ≠ .condition c) ∧ ∀ c, ev.data ≠ .attention c
  condition : ∀ ev, st.condition = some ev → ∃ c, ev.data = .condition c
  attention : ∀ ev, st.attention = some ev → ∃ c, ev.data = .attention c

/-- Every store fits its entry. -/
def State.StoresFit (s : State) : Prop := ∀ a : Addr, (s.store a).Fits (s.entry a)

theorem storesFit_iff (s : State) : s.StoresFit ↔ s.AttentionLaw ∧ s.StoreLaw :=
  ⟨fun h => ⟨fun a => ⟨(h a).held, (h a).releasing⟩, fun a => ⟨(h a).status, (h a).condition, (h a).attention⟩⟩,
    fun ⟨hat, hst⟩ a =>
      have ⟨hstatus, hcondition, hattention⟩ := hst a
      ⟨(hat a).1, (hat a).2, hstatus, hcondition, hattention⟩⟩

section
variable {st : Store} {e f : Entry} {ev : EventRecord}

/-- A store fits another entry that is HELD as the first was. -/
theorem Store.Fits.entry (h : st.Fits e) (hat : f.attention = .held ↔ e.attention = .held)
    (hrel : f.state = .releasing → f.attention = .none) : st.Fits f :=
  ⟨h.held.trans hat.symm, hrel, h.status, h.condition, h.attention⟩

theorem Store.Fits.same (h : st.Fits e) (hat : f.attention = e.attention)
    (hrel : f.state = .releasing → e.state = .releasing) : st.Fits f :=
  h.entry (by rw [hat]) fun k => hat.trans (h.releasing (hrel k))

/-- The store of an entry that is not HELD fits every entry without attention. -/
theorem Store.Fits.silent (h : st.Fits e) (he : e.attention ≠ .held) (hf : f.attention = .none) : st.Fits f :=
  h.entry (by simp [he, hf]) fun _ => hf

/-- The store of an entry without attention fits the entry once its report is posted (R104). -/
theorem Store.Fits.reported (h : st.Fits e) (he : e.attention = .none) (hrel : e.state ≠ .releasing) :
    st.Fits { e with attention := .reported } :=
  h.entry (by simp [he]) fun k => absurd k hrel

/-- An event other than ATTENTION waits in the slot of its kind (R146, R148, R149). -/
theorem Store.Fits.place (h : st.Fits e) (hd : ∀ c, ev.data ≠ .attention c) : (st.place ev).Fits e := by
  obtain ⟨hheld, hrel, hstatus, hcondition, hattention⟩ := h
  unfold Store.place
  split
  case h_1 c hc => exact ⟨hheld, hrel, hstatus, fun _ k => ⟨c, Option.some.inj k ▸ hc⟩, hattention⟩
  case h_2 c hc => exact absurd hc (hd c)
  all_goals exact ⟨hheld, hrel, fun _ k => by rw [← Option.some.inj k]; simp [*], hcondition, hattention⟩

/-- An ATTENTION event waits, and its entry is HELD (R104, R150). -/
theorem Store.Fits.placeAttention {c : Byte} (h : st.Fits e) (hc : ev.data = .attention c) (hrel : e.state ≠ .releasing) :
    (st.place ev).Fits { e with attention := .held } := by
  have hplace : st.place ev = { st with attention := some ev } := by simp [Store.place, hc]
  rw [hplace]
  exact ⟨by simp, fun k => absurd k hrel, h.status, h.condition, fun _ k => ⟨c, Option.some.inj k ▸ hc⟩⟩

/-- The attention slot is emptied, and the entry has no attention (R11, R16). -/
theorem Store.Fits.dropAttention (h : st.Fits e) (hf : f.attention = .none) : st.dropAttention.Fits f :=
  ⟨by simp [Store.dropAttention, hf], fun _ => hf, h.status, h.condition, nofun⟩

/-- The condition and attention slots are emptied at a rejoin, and the entry has no attention (R11). -/
theorem Store.Fits.rejoined (h : st.Fits e) (hf : f.attention = .none) : st.rejoined.Fits f :=
  ⟨by simp [Store.rejoined, hf], fun _ => hf, h.status, nofun, nofun⟩

end

/-! ## The relation -/

/-- The bounds of the queue and the ring are kept, and where the step before stood under certain laws, every store still fits
its entry. -/
structure KeepsRing (lawful : Prop) (s t : State) : Prop where
  queue : s.QueueLaw → t.QueueLaw
  occupancy : s.OccupancyLaw → t.OccupancyLaw
  stores : lawful → s.StoresFit → t.StoresFit

section
variable {L : Prop} {s t u : State}

theorem KeepsRing.refl (s : State) : KeepsRing L s s := ⟨id, id, fun _ => id⟩

theorem KeepsRing.trans (h : KeepsRing L s t) (k : KeepsRing L t u) : KeepsRing L s u :=
  ⟨k.queue ∘ h.queue, k.occupancy ∘ h.occupancy, fun hl => k.stores hl ∘ h.stores hl⟩

/-- Only entries are changed, each to one that its store fits. -/
theorem KeepsRing.of_entries (hq : t.queue = s.queue) (hr : t.ring = s.ring) (hst : t.stores = s.stores)
    (hc : t.censusSlot = s.censusSlot) (h : L → ∀ a : Addr, (s.store a).Fits (s.entry a) → (s.store a).Fits (t.entry a)) :
    KeepsRing L s t where
  queue := by rw [State.QueueLaw, State.QueueLaw, hq]; exact id
  occupancy := occupancyLaw_of_eq hq hr hst hc
  stores hl hs a := by rw [State.store_congr hst]; exact h hl a (hs a)

/-- Nothing that the laws speak of is changed. -/
theorem KeepsRing.of_eq (hq : t.queue = s.queue) (hr : t.ring = s.ring) (hst : t.stores = s.stores)
    (hc : t.censusSlot = s.censusSlot) (hro : t.roster = s.roster) : KeepsRing L s t :=
  .of_entries hq hr hst hc fun _ a h => by rwa [State.entry_congr hro]

/-- Only fields that the laws do not speak of have been changed since. -/
theorem KeepsRing.keep (h : KeepsRing L s t) (hq : u.queue = t.queue) (hr : u.ring = t.ring) (hst : u.stores = t.stores)
    (hc : u.censusSlot = t.censusSlot) (hro : u.roster = t.roster) : KeepsRing L s u := h.trans (.of_eq hq hr hst hc hro)

/-- The queue, the ring, the roster and every waiting place are empty, as after RESET#. -/
theorem KeepsRing.of_empty (hq : t.queue = []) (hr : t.ring = []) (hst : t.stores = .replicate 24 Store.empty)
    (hc : t.censusSlot = none) (hro : t.roster = .replicate 24 Entry.empty) : KeepsRing L s t :=
  have ⟨hqueue, hoccupancy, _, hattention, hstore⟩ := reset_queueLaws
  have h : KeepsRing True State.reset t := .of_eq hq hr hst hc hro
  ⟨fun _ => h.queue hqueue, fun _ => h.occupancy hoccupancy,
    fun _ _ => h.stores trivial ((storesFit_iff _).mpr ⟨hattention, hstore⟩)⟩

/-! ## Entries -/

theorem setEntry_ring {a : Addr} {e : Entry} (h : L → (s.store a).Fits (s.entry a) → (s.store a).Fits e) :
    KeepsRing L s (s.setEntry a e) := by
  refine .of_entries rfl rfl rfl rfl fun hl b hb => ?_
  rw [State.entry_setEntry]
  split
  · rename_i hba
    subst hba
    exact h hl hb
  · exact hb

/-- An entry keeps its attention state, and becomes RELEASING only if it was. -/
theorem modifyEntry_ring {a : Addr} {f : Entry → Entry} (hat : ∀ e, (f e).attention = e.attention)
    (hrel : ∀ e, (f e).state = .releasing → e.state = .releasing) : KeepsRing L s (s.modifyEntry a f) :=
  setEntry_ring fun _ h => h.same (hat _) (hrel _)

theorem mapEntries_ring {f : Addr → Entry → Entry} (hat : ∀ a e, (f a e).attention = e.attention)
    (hst : ∀ a e, (f a e).state = e.state) : KeepsRing L s (s.mapEntries f) :=
  .of_entries rfl rfl rfl rfl fun _ a h => by
    rw [State.entry_mapEntries]
    exact h.same (hat a _) (by rw [hst]; exact id)

/-- A store that holds no more than before does not make the count of waiting items rise. -/
theorem setStore_waiting_le {a : Addr} {st : Store} (h : st.occupied ≤ (s.store a).occupied) :
    (s.setStore a st).waiting ≤ s.waiting := by
  have hstore (b : Addr) : ((s.setStore a st).store b).occupied ≤ (s.store b).occupied := by
    rw [State.store_setStore]
    split
    · rename_i hba
      exact hba ▸ h
    · exact le_rfl
  have hsum : (Addr.all.map fun b => ((s.setStore a st).store b).occupied).sum ≤
      (Addr.all.map fun b => (s.store b).occupied).sum := List.sum_le_sum fun b _ => hstore b
  unfold State.waiting
  simp only [State.setStore_queue, State.setStore_censusSlot]
  omega

/-- An entry and its store are replaced by ones that fit, and the store holds no more than before. -/
theorem setEntryStore_ring {a : Addr} {e : Entry} {st : Store} (ho : st.occupied ≤ (s.store a).occupied)
    (h : L → (s.store a).Fits (s.entry a) → st.Fits e) : KeepsRing L s ((s.setEntry a e).setStore a st) where
  queue := id
  occupancy := occupancyLaw_congr rfl fun k hw => k (Nat.le_zero.mp (hw ▸ setStore_waiting_le (s := s.setEntry a e) ho))
  stores hl hs b := by
    rw [State.store_setStore, State.entry_congr (setStore_sameWork a st _).roster, State.entry_setEntry]
    split
    · exact h hl (hs a)
    · exact hs b

theorem dropAttention_occupied (st : Store) : st.dropAttention.occupied ≤ st.occupied := by
  simp [Store.dropAttention, Store.occupied]

theorem rejoined_occupied (st : Store) : st.rejoined.occupied ≤ st.occupied := by
  simp only [Store.rejoined, Store.occupied, Option.isSome_none, Bool.toNat_false]
  omega

/-! ## Events -/

/-- A store after an event is raised: as it was, or with the event placed. -/
theorem raise_store (ev : EventRecord) (s : State) (a : Addr) :
    (s.raise ev).store a = s.store a ∨ (s.raise ev).store a = (s.store a).place ev := by
  cases hev : ev.address with
  | none => exact .inl (by rw [raiseCensus_eq hev]; rfl)
  | some b =>
    rw [raise_eq hev]
    split
    · exact .inl rfl
    · rcases eq_or_ne a b with rfl | hab
      · exact .inr (Vector.getElem_set_self _)
      · exact .inl (Vector.getElem_set_ne b.isLt a.isLt fun k => hab (Fin.ext k.symm))

/-- An event other than ATTENTION is raised (R147). -/
theorem raise_ring {ev : EventRecord} (hd : ∀ c, ev.data ≠ .attention c) : KeepsRing L s (s.raise ev) where
  queue := by rw [State.QueueLaw, State.QueueLaw, raise_queue]; exact id
  occupancy := raise_occupancyLaw ev s
  stores _ hs a := by
    rw [State.entry_congr (raise_sameWork ev s).roster]
    rcases raise_store ev s a with h | h <;> rw [h]
    · exact hs a
    · exact (hs a).place hd

theorem raiseAt_ring (a : Addr) (d : EventData) (s : State) (hd : ∀ c, d ≠ .attention c) : KeepsRing L s (s.raiseAt a d) :=
  raise_ring hd

/-- An ATTENTION event is raised about an entry without attention: it posts and is REPORTED, or it waits and is HELD (R104). -/
theorem raiseAttention_ring {a : Addr} {code : Byte} (hat : (s.entry a).attention = .none)
    (hrel : (s.entry a).state ≠ .releasing) : KeepsRing L s (s.raiseAttention a code) where
  queue := by rw [State.QueueLaw, State.QueueLaw]; exact le_of_eq_of_le (congrArg _ (raiseAt_queue s a _))
  occupancy h := occupancyLaw_of_eq rfl rfl rfl rfl (raiseAt_occupancyLaw a (.attention code) s h)
  stores _ hs b := by
    have hstore : (s.raiseAttention a code).store b = (s.raiseAt a (.attention code)).store b := rfl
    have hentry : (s.raiseAttention a code).entry b =
        if b = a then { s.entry a with attention := if s.roomNow then .reported else .held } else s.entry b := by
      unfold State.raiseAttention
      rw [State.entry_modifyEntry, State.entry_congr (raiseAt_roster s a _), State.entry_congr (raiseAt_roster s a _)]
    rw [hstore, hentry, State.raiseAt, State.store, raise_eq rfl]
    have hfit := hs b
    rcases eq_or_ne b a with rfl | hba
    · rw [if_pos rfl]
      by_cases hroom : s.roomNow = true
      · rw [if_pos ((roomNow_freeSlots s).mp hroom), if_pos hroom]
        exact hfit.reported hat hrel
      · rw [if_neg ((roomNow_freeSlots s).not.mp hroom), if_neg hroom, Vector.getElem_set_self]
        exact hfit.placeAttention rfl hrel
    · rw [if_neg hba]
      split
      · exact hfit
      · rwa [Vector.getElem_set_ne _ _ fun k => hba (Fin.ext k.symm)]

/-! ## Verdicts and requests -/

/-- A request that held a reservation leaves the queue, and a record takes its slot (R131, R141). -/
theorem dropPost_ring {p : Request → Bool} {r : Request} {record : Record} (hr : s.queue.find? p = some r)
    (hres : r.reserved = true) : KeepsRing L s ((s.dropRequest p).post record) where
  queue := List.eraseP_sublist.length_le.trans
  occupancy := by
    refine occupancyLaw_congr ?_ (dropRequest_waiting p s)
    have hcount := countP_eraseP p Request.reserved s.queue r hr
    rw [if_pos hres] at hcount
    rw [post_occupancy, occupancy_eq, occupancy_eq, reservedIn, reservedIn, State.dropRequest_ring, State.dropRequest_queue]
    omega
  stores _ := id

/-- Counting after the first element that satisfies a test is changed to one that counts alike. -/
theorem countP_updateFirst_of_find? {α : Type} {p q : α → Bool} {f : α → α} {l : List α}
    (h : ∀ x, l.find? p = some x → q (f x) = q x) : (updateFirst p f l).countP q = l.countP q := by
  cases hx : l.find? p with
  | none => rw [updateFirst_none p f l hx]
  | some x =>
    have hcount := countP_updateFirst p q f l x hx
    rw [h x hx] at hcount
    omega

/-- A request is changed but for its reservation and a verdict that waits. -/
theorem modifyRequest_ring {p : Request → Bool} {f : Request → Request}
    (h : ∀ r, s.queue.find? p = some r → (f r).reserved = r.reserved ∧ (f r).verdictWaits = r.verdictWaits) :
    KeepsRing L s (s.modifyRequest p f) where
  queue := (length_updateFirst p f s.queue).trans_le
  occupancy := by
    refine occupancyLaw_congr ?_ fun k => ?_
    · rw [occupancy_eq, occupancy_eq, reservedIn, reservedIn, State.modifyRequest_queue, State.modifyRequest_ring,
        countP_updateFirst_of_find? fun r hr => (h r hr).1]
    · rwa [waiting_eq, waitingOf, State.modifyRequest_queue, countP_updateFirst_of_find? fun r hr => (h r hr).2] at k
  stores _ := id

/-- A verdict does not make the queue longer (R132). -/
theorem giveVerdict_length (ticket : Byte) (v : Completion) (s : State) :
    (s.giveVerdict ticket v).queue.length ≤ s.queue.length := by
  unfold State.giveVerdict
  split
  · exact le_rfl
  split
  · exact le_rfl
  split
  · exact le_rfl
  · exact List.eraseP_sublist.length_le
  split
  · exact List.eraseP_sublist.length_le
  · rw [State.modifyRequest_queue, length_updateFirst, (noteBacklog_queue_ring s).1]

theorem giveVerdict_ring (ticket : Byte) (v : Completion) (s : State) : KeepsRing L s (s.giveVerdict ticket v) where
  queue := (giveVerdict_length ticket v s).trans
  occupancy := giveVerdict_occupancyLaw ticket v s
  stores _ hs a := by
    rw [State.store_congr (giveVerdict_stores ticket v s), State.entry_congr (giveVerdict_sameWork ticket v s).roster]
    exact hs a

theorem giveVerdicts_ring (which : Request → Option Completion) (s : State) : KeepsRing L s (s.giveVerdicts which) := by
  unfold State.giveVerdicts
  generalize s.queue.filterMap _ = l
  induction l generalizing s with
  | nil => exact .refl s
  | cons w rest ih => exact (giveVerdict_ring w.1 w.2 s).trans (ih _)

theorem giveAddressVerdicts_ring (a : Addr) (v : Completion) (s : State) : KeepsRing L s (s.giveAddressVerdicts a v) :=
  giveVerdicts_ring _ s

end

end Sys2Proof.Machine
end

section
/-! PROOF. The sources' own work keeps the bounds of the queue and the ring and the stores: the roster, the census, the
negotiation, the sweep and the dispatcher. What an end needs of the laws is that of `State.EndFits`. -/

namespace Sys2Proof.Machine

section
variable {L : Prop} {s : State}

/-! ## The FIFO and the end of a negotiation -/

theorem appendFifo_ring (a : Addr) (s : State) : KeepsRing L s (s.appendFifo a) := by
  rw [appendFifo_eq]
  exact .of_eq rfl rfl rfl rfl rfl

theorem countClaim_ring (s : State) : KeepsRing L s s.countClaim := .of_eq rfl rfl rfl rfl rfl

theorem endNegotiation_ring (s : State) : KeepsRing L s s.endNegotiation := by
  rw [endNegotiation_eq]
  exact .of_eq rfl rfl rfl rfl rfl

theorem endNegotiationOf_ring (a : Addr) (s : State) : KeepsRing L s (s.endNegotiationOf a) := by
  unfold State.endNegotiationOf
  split
  · exact .refl s
  split
  · exact endNegotiation_ring s
  · exact .refl s

theorem abandonNegotiation_ring (s : State) : KeepsRing L s s.abandonNegotiation := by
  unfold State.abandonNegotiation
  split
  · exact .refl s
  · rename_i n _
    refine KeepsRing.trans (t := s.modifyEntry n.address fun e => { e with state := .pending, due := false, pages := [] })
      (modifyEntry_ring (fun _ => rfl) (by simp)) (.trans ?_ (endNegotiation_ring _))
    unfold State.prependFifo
    split <;> exact .of_eq rfl rfl rfl rfl rfl

/-! ## The roster -/

theorem enterPending_ring (a : Addr) (s : State) : KeepsRing L s (s.enterPending a) :=
  have hset : KeepsRing L s (s.modifyEntry a fun e => { e with state := .pending, due := false }) :=
    modifyEntry_ring (fun _ => rfl) (by simp)
  hset.trans (appendFifo_ring a _)

/-- Entering LOST gives verdicts and raises an event (R108). -/
theorem enterLost_ring (a : Addr) (s : State) : KeepsRing L s (s.enterLost a) :=
  have hset : KeepsRing L s (s.modifyEntry a fun e => { e with state := .lost, holdOff := none }) :=
    modifyEntry_ring (fun _ => rfl) (by simp)
  (hset.trans (giveAddressVerdicts_ring a _ _)).trans (raiseAt_ring a .lost _ (by simp))

/-- A RELEASING entry has no attention, so its store has no attention event (R16, R150). -/
theorem becomeFree_ring {a : Addr} (answered : Bool) (h : L → (s.entry a).state = .releasing) :
    KeepsRing L s (s.becomeFree a answered) := by
  have hraise : KeepsRing L s (s.raiseAt a (.released answered)) := raiseAt_ring a _ s (by simp)
  have hempty : KeepsRing L (s.raiseAt a (.released answered)) ((s.raiseAt a (.released answered)).setEntry a Entry.empty) :=
    setEntry_ring fun hl hfit =>
      have hnone := hfit.releasing (by rw [State.entry_congr (raiseAt_roster s a _)]; exact h hl)
      hfit.silent (by simp [hnone]) rfl
  exact (hraise.trans hempty).keep rfl rfl rfl rfl rfl

theorem addMiss_ring (a : Addr) (s : State) : KeepsRing L s (s.addMiss a) := by
  have hmisses (count : Nat) : KeepsRing L s (s.modifyEntry a fun e => { e with misses := count }) :=
    modifyEntry_ring (fun _ => rfl) fun _ => id
  unfold State.addMiss
  dsimp only
  split
  · exact (hmisses _).trans (enterLost_ring a _)
  · exact hmisses _

/-- RELEASE gives verdicts and empties the attention slot of its entry (R16). -/
theorem releaseEntry_ring (a : Addr) (s : State) : KeepsRing L s (s.releaseEntry a) := by
  have hverdicts := (giveAddressVerdicts_ring (L := L) a .released s).trans (endNegotiationOf_ring a _)
  unfold State.releaseEntry
  generalize (s.giveAddressVerdicts a .released).endNegotiationOf a = u at hverdicts
  have hreleasing : KeepsRing L (u.dropFifo a) (((u.dropFifo a).modifyEntry a fun e =>
      { e with state := .releasing, attention := .none, due := false }).setStore a (u.store a).dropAttention) :=
    setEntryStore_ring (dropAttention_occupied _) fun _ h => h.dropAttention rfl
  exact (hverdicts.keep (u := u.dropFifo a) rfl rfl rfl rfl rfl).trans hreleasing

theorem releaseEnd_ring {a : Addr} {e : ExchangeEnd}
    (h : L → e = .sent ∨ e = .interrupted ∨ e = .faulted ∨ (s.entry a).state = .releasing) :
    KeepsRing L s (s.releaseEnd a e) := by
  unfold State.releaseEnd
  split
  case h_1 | h_2 | h_3 => exact becomeFree_ring _ fun hl => by simpa using h hl
  all_goals exact .refl s

/-- A rejoin gives verdicts, empties the condition and attention slots of its entry and raises an event (R11). -/
theorem rejoin_ring (a : Addr) (s : State) : KeepsRing L s (s.rejoin a) := by
  have hverdicts := (giveAddressVerdicts_ring (L := L) a .nodeRestarted s).trans (endNegotiationOf_ring a _)
  unfold State.rejoin
  generalize (s.giveAddressVerdicts a .nodeRestarted).endNegotiationOf a = u at hverdicts
  have hemptied : KeepsRing L u ((u.modifyEntry a Entry.rejoined).setStore a (u.store a).rejoined) :=
    setEntryStore_ring (rejoined_occupied _) fun _ h => h.rejoined rfl
  exact (((hverdicts.trans hemptied).trans (appendFifo_ring a _)).trans (countClaim_ring _)).trans
    (raiseAt_ring a .restarted _ (by simp))

/-- A new entry takes the place of one that is not HELD (R9). -/
theorem claimAccepted_ring (h : L → ∀ u a, s.round = some (.claim u a false) → (s.entry a).attention ≠ .held) :
    KeepsRing L s s.claimAccepted := by
  unfold State.claimAccepted
  split
  · rename_i u a hround
    have hnew : KeepsRing L s (s.setEntry a { Entry.empty with state := .pending, unit := u }) :=
      setEntry_ring fun hl hfit => hfit.silent (h hl u a hround) rfl
    exact (hnew.trans (appendFifo_ring a _)).trans (countClaim_ring _)
  · rename_i a _
    have htoggle : KeepsRing L s (s.modifyEntry a fun e => { e with toggle := false }) :=
      modifyEntry_ring (fun _ => rfl) fun _ => id
    split
    · exact htoggle.trans (countClaim_ring _)
    · exact rejoin_ring _ s
  · exact .refl s

theorem assignAddress_ring (u : UnitNumber) (s : State) : KeepsRing L s (s.assignAddress u).1 := by
  unfold State.assignAddress
  split
  · exact .refl s
  split
  · exact becomeFree_ring _ fun _ => by assumption
  · exact .refl s

/-! ## The census -/

/-- The end of a run raises CENSUS END alone (R70). -/
theorem endRun_ring (o : RunOutcome) (u : UnitNumber) (s : State) : KeepsRing L s (s.endRun o u) :=
  (raise_ring (by simp)).keep rfl rfl rfl rfl rfl

theorem endRunLine_ring (s : State) : KeepsRing L s s.endRunLine := by
  unfold State.endRunLine
  split
  · exact endRun_ring _ _ s
  · exact .refl s

theorem roundEndsRun_ring (o : RunOutcome) (u : UnitNumber) (s : State) : KeepsRing L s (s.roundEndsRun o u) := by
  unfold State.roundEndsRun
  split <;> exact endRun_ring _ _ s

theorem afterRound_ring (s : State) : KeepsRing L s s.afterRound := by
  unfold State.afterRound
  split
  · exact endRun_ring _ _ s
  split
  · exact endRun_ring _ _ s
  split
  · exact endRun_ring _ _ s
  · exact .of_eq rfl rfl rfl rfl rfl

theorem failRound_ring (s : State) : KeepsRing L s s.failRound :=
  KeepsRing.trans (t := { s with failures := s.failures + 1 }) (.of_eq rfl rfl rfl rfl rfl) (afterRound_ring _)

theorem censusEnd_ring {e : ExchangeEnd} (h : L → e = .sent ∨ e = .interrupted ∨ e = .faulted ∨
    ∀ u a, s.round = some (.claim u a false) → (s.entry a).attention ≠ .held) : KeepsRing L s (s.censusEnd e) := by
  unfold State.censusEnd
  split
  · exact endRunLine_ring s
  · exact endRunLine_ring s
  · exact KeepsRing.trans (t := { s with dismissOwed := false, failures := 0 }) (.of_eq rfl rfl rfl rfl rfl) (afterRound_ring _)
  · exact failRound_ring s
  · have hclaim : KeepsRing L s s.claimAccepted := claimAccepted_ring fun hl => by simpa using h hl
    exact (hclaim.keep (u := { s.claimAccepted with failures := if s.lineState = .draining then s.failures else 0 })
      rfl rfl rfl rfl rfl).trans (afterRound_ring _)
  all_goals exact .refl s

theorem stopRun_ring (s : State) : KeepsRing L s s.stopRun := by
  unfold State.stopRun
  split
  · exact endRun_ring _ _ s
  all_goals exact .of_eq rfl rfl rfl rfl rfl

/-! ## The negotiation -/

theorem failNegotiation_ring (n : Negotiation) (r : RefusalReason) (s : State) : KeepsRing L s (s.failNegotiation n r) :=
  have hset : KeepsRing L s (s.modifyEntry n.address fun e => { e with state := .refused, due := false }) :=
    modifyEntry_ring (fun _ => rfl) (by simp)
  ((hset.trans (raiseAt_ring n.address (.refused r) _ (by simp))).trans (giveAddressVerdicts_ring n.address _ _)).trans
    (endNegotiation_ring _)

theorem protocolError_ring (n : Negotiation) (s : State) : KeepsRing L s (s.protocolError n) := by
  unfold State.protocolError
  split
  · exact KeepsRing.keep (t := s.modifyEntry n.address fun e => { e with pages := [] })
      (modifyEntry_ring (fun _ => rfl) fun _ => id) rfl rfl rfl rfl rfl
  · exact failNegotiation_ring n _ s

/-- A resolution raises JOINED and gives verdicts (R88, R90). -/
theorem resolveNegotiation_ring (n : Negotiation) (s : State) : KeepsRing L s (s.resolveNegotiation n) := by
  unfold State.resolveNegotiation
  dsimp only
  split
  · exact failNegotiation_ring n _ s
  rename_i terms _
  generalize interpretPages _ _ = d
  have hset : KeepsRing L s (s.modifyEntry n.address fun e => e.resolved terms d) :=
    modifyEntry_ring (fun _ => rfl) (by simp [Entry.resolved])
  exact ((hset.trans (raiseAt_ring n.address (.joined terms d.deviceClass) _ (by simp))).trans (giveVerdicts_ring _ _)).trans
    (endNegotiation_ring _)

theorem judgePage_ring (n : Negotiation) (w : PageWord) (s : State) : KeepsRing L s (s.judgePage n w) := by
  have hkept : KeepsRing L s (s.modifyEntry n.address fun e => { e with pages := keepPage e.pages w }) :=
    modifyEntry_ring (fun _ => rfl) fun _ => id
  unfold State.judgePage
  split
  · exact protocolError_ring n s
  split
  · exact protocolError_ring n s
  split
  · exact failNegotiation_ring n _ s
  split
  · exact failNegotiation_ring n _ s
  unfold State.pageKept
  dsimp only
  split
  · exact hkept.trans (resolveNegotiation_ring n _)
  split
  · exact hkept.trans (failNegotiation_ring n _ _)
  · exact hkept.keep rfl rfl rfl rfl rfl

theorem pageWait_ring (n : Negotiation) (s : State) : KeepsRing L s (s.pageWait n) := by
  unfold State.pageWait
  dsimp only
  split
  · exact protocolError_ring _ s
  · exact .of_eq rfl rfl rfl rfl rfl

theorem pageEnd_ring (a : Addr) (e : ExchangeEnd) (s : State) : KeepsRing L s (s.pageEnd a e) := by
  unfold State.pageEnd
  split
  · exact .refl s
  rename_i n _
  split
  · exact .refl s
  split
  · exact abandonNegotiation_ring s
  split
  · exact judgePage_ring n _ s
  · exact protocolError_ring n s
  · exact pageWait_ring n s
  · exact (enterLost_ring a s).trans (endNegotiation_ring _)
  · exact abandonNegotiation_ring s
  · exact abandonNegotiation_ring s
  · exact .refl s

/-! ## The sweep -/

theorem applyCondition_ring (a : Addr) (c : Condition) (s : State) : KeepsRing L s (s.applyCondition a c) := by
  unfold State.applyCondition
  split
  · exact .refl s
  · have hset : KeepsRing L s (s.modifyEntry a fun e => { e with condition := c }) :=
      modifyEntry_ring (fun _ => rfl) fun _ => id
    exact hset.trans (raiseAt_ring a (.condition c) _ (by simp))

theorem applyAttention_ring {a : Addr} (code : Byte) (h : (s.entry a).state ≠ .releasing) :
    KeepsRing L s (s.applyAttention a code) := by
  unfold State.applyAttention
  dsimp only
  split
  · rename_i hreports
    exact raiseAttention_ring hreports.2.2 h
  · exact .refl s

/-- The acknowledge is sent only while the entry is not HELD (R101, R102). -/
theorem applyAcknowledge_ring {a : Addr} {k : Bool} (h : L → k = true → (s.entry a).attention ≠ .held) :
    KeepsRing L s (s.applyAcknowledge a k) := by
  unfold State.applyAcknowledge
  split
  · rename_i hk
    exact setEntry_ring fun hl hfit => hfit.silent (h hl hk) rfl
  · exact .refl s

theorem probeReturn_ring (a : Addr) (s : State) : KeepsRing L s (s.probeReturn a) := by
  unfold State.probeReturn
  refine KeepsRing.trans ?_ (raiseAt_ring a .back _ (by simp))
  split
  · exact modifyEntry_ring (fun _ => rfl) (by simp)
  · exact enterPending_ring a s

/-- The return of a LOST entry leaves its attention state (R110). -/
theorem probeReturn_entry (a : Addr) (s : State) :
    ((s.probeReturn a).entry a).attention = (s.entry a).attention ∧ ((s.probeReturn a).entry a).state ≠ .releasing := by
  unfold State.probeReturn
  rw [State.entry_congr (raiseAt_roster _ a .back)]
  split
  · simp
  · rw [State.enterPending, State.entry_congr (appendFifo_roster _ a)]
    simp

/-- The acknowledge and the condition byte leave the state of the entry (R102, R103). -/
theorem applyCondition_acknowledge_state (a : Addr) (k : Bool) (c : Condition) (s : State) :
    (((s.applyAcknowledge a k).applyCondition a c).entry a).state = (s.entry a).state := by
  have hack : ((s.applyAcknowledge a k).entry a).state = (s.entry a).state := by
    unfold State.applyAcknowledge
    split <;> simp
  unfold State.applyCondition
  split
  · exact hack
  · rw [State.entry_congr (raiseAt_roster _ a _)]
    simpa using hack

/-- The acknowledge, the condition byte and the attention byte of a poll answer (R102 to R104). -/
theorem pollBytes_ring {a : Addr} {k : Bool} (code : Byte) (c : Condition) (hrel : (s.entry a).state ≠ .releasing)
    (hack : L → k = true → (s.entry a).attention ≠ .held) :
    KeepsRing L s (((s.applyAcknowledge a k).applyCondition a c).applyAttention a code) :=
  ((applyAcknowledge_ring hack).trans (applyCondition_ring a c _)).trans
    (applyAttention_ring code (by rwa [applyCondition_acknowledge_state]))

theorem pollAnswer_ring {a : Addr} {k : Bool} (code : Byte) (c : Condition) (hrel : (s.entry a).state ≠ .releasing)
    (hack : L → k = true → (s.entry a).attention ≠ .held) : KeepsRing L s (s.pollAnswer a k code c) := by
  have hdue : KeepsRing L s (s.modifyEntry a fun e => { e with due := false }) := modifyEntry_ring (fun _ => rfl) fun _ => id
  unfold State.pollAnswer
  dsimp only
  by_cases hlost : (s.entry a).state = .lost
  · rw [if_pos hlost]
    obtain ⟨hattention, hstate⟩ := probeReturn_entry a (s.modifyEntry a fun e => { e with due := false })
    rw [entry_modifyEntry_self] at hattention
    exact (hdue.trans (probeReturn_ring a _)).trans (pollBytes_ring code c hstate fun hl hk => hattention ▸ hack hl hk)
  · rw [if_neg hlost]
    refine hdue.trans (pollBytes_ring code c ?_ ?_) <;> rw [entry_modifyEntry_self]
    · exact hrel
    · exact hack

theorem failedPoll_ring (a : Addr) (s : State) : KeepsRing L s (s.failedPoll a) := by
  have hdue : KeepsRing L s (s.modifyEntry a fun e => { e with due := false }) := modifyEntry_ring (fun _ => rfl) fun _ => id
  unfold State.failedPoll
  dsimp only
  split
  · exact hdue
  · exact hdue.trans (addMiss_ring a _)

theorem pollEnd_ring {a : Addr} {k : Bool} {e : ExchangeEnd}
    (h : L → e = .sent ∨ e = .interrupted ∨ e = .faulted ∨ (k = true → (s.entry a).attention ≠ .held)) :
    KeepsRing L s (s.pollEnd a k e) := by
  unfold State.pollEnd
  split
  · exact .refl s
  rename_i hrel
  split
  · split
    · exact pollAnswer_ring _ _ hrel fun hl => by simpa using h hl
    · exact .refl s
  · split
    · exact .refl s
    · exact failedPoll_ring a s
  · split
    · exact .refl s
    · exact failedPoll_ring a s
  all_goals exact .refl s

/-! ## Requests -/

section
variable {q : Request}

/-- The ON-LINE request holds a reservation, and no verdict of it waits (R118, R152). -/
theorem onLine_reserved (h : s.onLine? = some q) : q.reserved = true ∧ q.verdictWaits = false := by
  have hphase : q.phase = .onLine := by simpa [Request.isOnLine] using List.find?_some h
  simp [Request.reserved, Request.verdictWaits, hphase]

theorem completeRequest_ring (h : s.onLine? = some q) (r : Request) (c : Completion) (reason : BitVec 4) (p : List Byte) :
    KeepsRing L s (s.completeRequest r c reason p) := dropPost_ring h (onLine_reserved h).1

theorem holdOrEnd_ring (h : s.onLine? = some q) (r : Request) : KeepsRing L s (s.holdOrEnd r) := by
  unfold State.holdOrEnd
  split
  · exact completeRequest_ring h r _ _ _
  split
  · exact completeRequest_ring h r _ _ _
  · refine modifyRequest_ring fun x hx => ?_
    obtain ⟨hres, hwaits⟩ := onLine_reserved hx
    rw [hres, hwaits]
    exact ⟨rfl, rfl⟩

theorem waitRequest_ring (h : s.onLine? = some q) (r : Request) : KeepsRing L s (s.waitRequest r) := by
  unfold State.waitRequest
  split
  · exact completeRequest_ring h _ _ _ _
  · exact holdOrEnd_ring h _

end

theorem missFor_ring (r : Request) (s : State) : KeepsRing L s (s.missFor r) := by
  unfold State.missFor
  split
  · exact .refl s
  split
  · exact .refl s
  · exact addMiss_ring _ s

theorem requestEnd_ring (e : ExchangeEnd) (s : State) : KeepsRing L s (s.requestEnd e) := by
  unfold State.requestEnd
  split
  · exact .refl s
  rename_i r hr
  split
  · exact completeRequest_ring hr r _ _ _
  · exact completeRequest_ring hr r _ _ _
  · exact completeRequest_ring hr r _ _ _
  · exact waitRequest_ring hr r
  · exact (completeRequest_ring hr r _ _ _).trans (missFor_ring r _)
  · exact holdOrEnd_ring hr r
  · exact completeRequest_ring hr r _ _ _

/-! ## The end handed to a source -/

/-- What the laws say of the entry that an accepted or exhausted end of the exchange acts on: RELEASE addresses a RELEASING
entry (R18), an acknowledge goes to an entry that is not HELD (R101), and a new-entry CLAIM names one that is not HELD (R8). -/
structure State.AnswerFits (s : State) (x : Exchange) : Prop where
  release : x.source = .release → ∀ a, x.frame.address = some a → (s.entry a).state = .releasing
  sweep : x.source = .sweep → x.frame.ackFlag = true → ∀ a, x.frame.address = some a → (s.entry a).attention ≠ .held
  census : ∀ u a, s.round = some (.claim u a false) → (s.entry a).attention ≠ .held

/-- The end changes no such entry, or the laws hold of it. -/
def State.EndFits (s : State) (x : Exchange) (e : ExchangeEnd) : Prop :=
  e = .sent ∨ e = .interrupted ∨ e = .faulted ∨ s.AnswerFits x

/-- Every source keeps the ring and the stores at the end of its exchange (section 2.6). -/
theorem handEnd_ring {x : Exchange} {e : ExchangeEnd} (h : L → s.EndFits x e) : KeepsRing L s (s.handEnd x e) := by
  have hfits {P : Prop} (hP : s.AnswerFits x → P) (hl : L) : e = .sent ∨ e = .interrupted ∨ e = .faulted ∨ P :=
    (h hl).imp_right (Or.imp_right (Or.imp_right hP))
  unfold State.handEnd
  split
  · rename_i a hsource haddress
    exact releaseEnd_ring (hfits fun k => k.release hsource a haddress)
  · exact pageEnd_ring _ e s
  · rename_i a hsource haddress
    exact pollEnd_ring (hfits fun k hack => k.sweep hsource hack a haddress)
  · exact censusEnd_ring (hfits State.AnswerFits.census)
  · exact requestEnd_ring e s
  all_goals exact .refl s

end

end Sys2Proof.Machine
end

section
/-! PROOF. The posting order (R153, R154): RETIRE (O21), what RETIRE keeps, and an event that posts or begins to wait (O22). -/

namespace Sys2Proof.Machine

/-! ## The first event of a store -/

/-- A store from which nothing can be taken holds nothing (R153). -/
theorem takeFirst_eq_none_iff (st : Store) : st.takeFirst = none ↔ st.occupied = 0 := by
  obtain ⟨status, condition, attention⟩ := st
  cases status <;> cases condition <;> cases attention <;> simp [Store.takeFirst, Store.occupied]

/-- The event that leaves first is the status event, the condition event or the attention event (R153). -/
theorem takeFirst_cases {st rest : Store} {e : EventRecord} (h : st.takeFirst = some (e, rest)) :
    (st.status = some e ∧ rest = { st with status := none }) ∨
      (st.condition = some e ∧ rest = { st with condition := none }) ∨
      (st.attention = some e ∧ rest = { st with attention := none }) := by
  unfold Store.takeFirst at h
  split at h
  · obtain ⟨rfl, rfl⟩ : _ = e ∧ _ = rest := by simpa using h
    exact .inl ⟨by assumption, rfl⟩
  · obtain ⟨rfl, rfl⟩ : _ = e ∧ _ = rest := by simpa using h
    exact .inr (.inl ⟨by assumption, rfl⟩)
  · obtain ⟨rfl, rfl⟩ : _ = e ∧ _ = rest := by simpa using h
    exact .inr (.inr ⟨by assumption, rfl⟩)
  · simp at h

/-- The state in which the event that leaves a store first has been posted (R153, R154). -/
def State.postFrom (a : Addr) (e : EventRecord) (rest : Store) (s : State) : State :=
  ((s.setStore a rest).post (.event e)).attentionPosted a e

section
variable {s : State}

/-- Nothing is posted from stores that hold nothing. -/
theorem postFromStores_none {l : List Addr} (h : ∀ a ∈ l, (s.store a).takeFirst = none) : s.postFromStores l = s := by
  induction l with
  | nil => rfl
  | cons a rest ih =>
    simp only [State.postFromStores, h a (by simp)]
    exact ih fun b hb => h b (by simp [hb])

/-- The first event of the first store that holds one is posted (R153). -/
theorem postFromStores_append {a : Addr} {before after : List Addr} {e : EventRecord} {rest : Store}
    (hbefore : ∀ b ∈ before, (s.store b).takeFirst = none) (ha : (s.store a).takeFirst = some (e, rest)) :
    s.postFromStores (before ++ a :: after) = s.postFrom a e rest := by
  induction before with
  | nil =>
    simp only [List.nil_append, State.postFromStores, ha]
    rfl
  | cons b before ih =>
    simp only [List.cons_append, State.postFromStores, hbefore b (by simp)]
    exact ih fun c hc => hbefore c (by simp [hc])

/-- The stores post nothing, or the first event of one. -/
theorem postFromStores_cases (s : State) (l : List Addr) :
    ((∀ a ∈ l, (s.store a).takeFirst = none) ∧ s.postFromStores l = s) ∨
      ∃ a e rest, (s.store a).takeFirst = some (e, rest) ∧ s.postFromStores l = s.postFrom a e rest := by
  cases hfind : l.find? fun a => (s.store a).takeFirst.isSome with
  | none =>
    have hnone : ∀ a ∈ l, (s.store a).takeFirst = none := by simpa using hfind
    exact .inl ⟨hnone, postFromStores_none hnone⟩
  | some a =>
    obtain ⟨ha, before, after, rfl, hbefore⟩ := List.find?_eq_some_iff_append.mp hfind
    obtain ⟨⟨e, rest⟩, htake⟩ := Option.isSome_iff_exists.mp ha
    exact .inr ⟨a, e, rest, htake, postFromStores_append (by simpa using hbefore) htake⟩

/-- An event that is no ATTENTION changes no attention state when it posts (R154). -/
theorem postFrom_other {a : Addr} {e : EventRecord} {rest : Store} (h : ∀ c, e.data ≠ .attention c) :
    s.postFrom a e rest = (s.setStore a rest).post (.event e) := by
  unfold State.postFrom State.attentionPosted
  split
  · rename_i c hc
    exact absurd hc (h c)
  · rfl

/-- An ATTENTION event that posts is REPORTED (R154). -/
theorem postFrom_attention {a : Addr} {e : EventRecord} {rest : Store} {c : Byte} (h : e.data = .attention c) :
    s.postFrom a e rest =
      ((s.setEntry a { s.entry a with attention := .reported }).setStore a rest).post (.event e) := by
  simp only [State.postFrom, State.attentionPosted, h]
  rfl

/-! ## The posting order -/

theorem postFirstWaiting_verdict {r : Request} {v : Completion} (hr : s.queue.find? Request.verdictWaits = some r)
    (hv : r.verdict = some v) :
    s.postFirstWaiting = (s.dropRequest Request.verdictWaits).post (.request (r.record v 0 [])) := by
  simp only [State.postFirstWaiting, hr, hv, Option.getD_some]

theorem postFirstWaiting_census {e : EventRecord} (hq : s.queue.find? Request.verdictWaits = none)
    (hc : s.censusSlot = some e) : s.postFirstWaiting = State.post (.event e) { s with censusSlot := none } := by
  simp only [State.postFirstWaiting, hq, hc]

theorem postFirstWaiting_stores (hq : s.queue.find? Request.verdictWaits = none) (hc : s.censusSlot = none) :
    s.postFirstWaiting = s.postFromStores Addr.all := by
  simp only [State.postFirstWaiting, hq, hc]

/-- The lowest address whose store holds an event is the first that posts (R153). -/
theorem postFirstWaiting_store {a : Addr} {e : EventRecord} {rest : Store}
    (hq : s.queue.find? Request.verdictWaits = none) (hc : s.censusSlot = none) (hb : ∀ b < a, s.store b = Store.empty)
    (ha : (s.store a).takeFirst = some (e, rest)) : s.postFirstWaiting = s.postFrom a e rest := by
  have hfind : Addr.all.find? (fun b => (s.store b).takeFirst.isSome) = some a :=
    find?_finRange (by rw [ha]; rfl) fun b hlt => by rw [hb b hlt]; rfl
  obtain ⟨-, before, after, hall, hbefore⟩ := List.find?_eq_some_iff_append.mp hfind
  rw [postFirstWaiting_stores hq hc, hall, postFromStores_append (by simpa using hbefore) ha]

/-- Nothing waits exactly where no verdict, no CENSUS END and no store's event waits (R152). -/
theorem waiting_eq_zero_iff (s : State) : s.waiting = 0 ↔
    s.queue.find? Request.verdictWaits = none ∧ s.censusSlot = none ∧ ∀ a ∈ Addr.all, (s.store a).takeFirst = none := by
  have hverdicts : s.queue.countP Request.verdictWaits = 0 ↔ s.queue.find? Request.verdictWaits = none := by
    rw [List.countP_eq_zero, List.find?_eq_none]
  have hcensus : s.censusSlot.isSome.toNat = 0 ↔ s.censusSlot = none := by cases s.censusSlot <;> simp
  have hstores : (Addr.all.map fun a => (s.store a).occupied).sum = 0 ↔ ∀ a ∈ Addr.all, (s.store a).takeFirst = none := by
    simp [List.sum_eq_zero_iff, takeFirst_eq_none_iff]
  rw [← hverdicts, ← hcensus, ← hstores, State.waiting]
  omega

/-- Nothing is posted where nothing waits. -/
theorem postFirstWaiting_none (h : s.waiting = 0) : s.postFirstWaiting = s := by
  obtain ⟨hq, hc, hst⟩ := (waiting_eq_zero_iff s).mp h
  rw [postFirstWaiting_stores hq hc, postFromStores_none hst]

/-- Where anything waits, one record is posted, and no reservation is lost (R141, R153). -/
theorem postFirstWaiting_occupancy (h : s.waiting ≠ 0) : s.postFirstWaiting.occupancy = s.occupancy + 1 := by
  cases hq : s.queue.find? Request.verdictWaits with
  | some r =>
    have hwaits : r.phase = .unstarted ∧ r.verdict.isSome = true := by
      simpa [Request.verdictWaits] using List.find?_some hq
    obtain ⟨v, hv⟩ := Option.isSome_iff_exists.mp hwaits.2
    have hcount := countP_eraseP Request.verdictWaits Request.reserved s.queue r hq
    rw [if_neg (by simp [Request.reserved, hwaits.1])] at hcount
    rw [postFirstWaiting_verdict hq hv, post_occupancy, occupancy_eq, occupancy_eq, reservedIn, reservedIn,
      State.dropRequest_ring, State.dropRequest_queue]
    omega
  | none =>
    cases hc : s.censusSlot with
    | some e =>
      rw [postFirstWaiting_census hq hc]
      exact post_occupancy _ { s with censusSlot := none }
    | none =>
      rw [postFirstWaiting_stores hq hc]
      rcases postFromStores_cases s Addr.all with ⟨hnone, -⟩ | ⟨a, e, rest, -, hpost⟩
      · exact absurd ((waiting_eq_zero_iff s).mpr ⟨hq, hc, hnone⟩) h
      · have hkept : (s.postFrom a e rest).occupancy = ((s.setStore a rest).post (.event e)).occupancy := by
          unfold State.postFrom State.attentionPosted
          split <;> rfl
        rw [hpost, hkept, post_occupancy]
        rfl

/-! ## What RETIRE keeps -/

/-- A store and its entry still fit once the first event has been posted (R154). -/
theorem Store.Fits.takeFirst {st rest : Store} {entry : Entry} {e : EventRecord} (h : st.Fits entry)
    (ht : st.takeFirst = some (e, rest)) :
    ((∀ c, e.data ≠ .attention c) ∧ rest.Fits entry) ∨
      ((∃ c, e.data = .attention c) ∧ rest.Fits { entry with attention := .reported }) := by
  rcases takeFirst_cases ht with ⟨hslot, rfl⟩ | ⟨hslot, rfl⟩ | ⟨hslot, rfl⟩
  · exact .inl ⟨(h.status e hslot).2, h.held, h.releasing, nofun, h.condition, h.attention⟩
  · obtain ⟨c, hc⟩ := h.condition e hslot
    exact .inl ⟨by simp [hc], h.held, h.releasing, h.status, nofun, h.attention⟩
  · have hheld : entry.attention = .held := h.held.mp (by simp [hslot])
    refine .inr ⟨h.attention e hslot, by simp, fun hrel => ?_, h.status, h.condition, nofun⟩
    exact absurd (h.releasing hrel) (by simp [hheld])

theorem State.StoresFit.postFrom {a : Addr} {e : EventRecord} {rest : Store} (h : s.StoresFit)
    (ht : (s.store a).takeFirst = some (e, rest)) : (s.postFrom a e rest).StoresFit := by
  have hstore (b : Addr) : (s.postFrom a e rest).store b = if b = a then rest else s.store b := by
    rw [← State.store_setStore]
    unfold State.postFrom State.attentionPosted
    split <;> rfl
  intro b
  rw [hstore]
  rcases (h a).takeFirst ht with ⟨hother, hfit⟩ | ⟨⟨c, hc⟩, hfit⟩
  · rw [postFrom_other hother]
    split
    · rename_i hba
      exact hba ▸ hfit
    · exact h b
  · have hentry (f : Entry) : (((s.setEntry a f).setStore a rest).post (.event e)).entry b = if b = a then f else s.entry b :=
      State.entry_setEntry s a b f
    rw [postFrom_attention hc, hentry]
    split
    · exact hfit
    · exact h b

/-- Posting the first waiting item keeps every store fitting its entry (R153, R154). -/
theorem State.StoresFit.postFirstWaiting (h : s.StoresFit) : s.postFirstWaiting.StoresFit := by
  unfold State.postFirstWaiting
  split
  · exact h
  split
  · exact h
  · rcases postFromStores_cases s Addr.all with ⟨-, hpost⟩ | ⟨a, e, rest, ht, hpost⟩ <;> rw [hpost]
    · exact h
    · exact h.postFrom ht

/-- Posting the first waiting item does not make the queue longer: a verdict's request leaves it (R132). -/
theorem postFirstWaiting_length (s : State) : s.postFirstWaiting.queue.length ≤ s.queue.length := by
  unfold State.postFirstWaiting
  split
  · exact List.eraseP_sublist.length_le
  split
  · exact le_rfl
  · rcases postFromStores_cases s Addr.all with ⟨-, hpost⟩ | ⟨a, e, rest, -, hpost⟩ <;> rw [hpost]
    unfold State.postFrom State.attentionPosted
    split <;> exact le_rfl

/-- RETIRE takes one record out, and puts one in its place where anything waits (R141, R143). -/
theorem retireHead_ring {L : Prop} (h : s.ring ≠ []) : KeepsRing L s s.retireHead := by
  obtain ⟨head, rest, hr⟩ := List.exists_cons_of_ne_nil h
  generalize hu : ({ s with ring := s.ring.tail } : State) = u
  have hretire : s.retireHead = u.postFirstWaiting := by rw [← hu]; rfl
  have hcount : u.occupancy + 1 = s.occupancy := by
    rw [← hu, occupancy_eq, occupancy_eq, hr]
    exact Nat.add_right_comm _ _ _
  have hwaiting : u.waiting = s.waiting := by rw [← hu]; rfl
  rw [hretire]
  refine ⟨fun hq => ?_, fun hocc => ?_, fun _ hst => ?_⟩
  · have hqueue : u.queue = s.queue := by rw [← hu]
    exact (postFirstWaiting_length u).trans (hqueue ▸ hq)
  · by_cases hw : u.waiting = 0
    · rw [postFirstWaiting_none hw]
      have hless := hocc.1
      exact ⟨by omega, fun k => absurd hw k⟩
    · refine occupancyLaw_of_full ?_
      rw [postFirstWaiting_occupancy hw, hcount]
      exact hocc.2 (hwaiting ▸ hw)
  · have hfits : u.StoresFit := hu ▸ hst
    exact hfits.postFirstWaiting

/-! ## RETIRE -/

/-- A taken RETIRE removes the head record and posts the first waiting item (R143). -/
theorem exec_retire {head : Record} {rest : List Record} {u t : State} (h : s.Open) (hr : s.ring = head :: rest)
    (hu : ({ s with ring := rest } : State).postFirstWaiting = u) (ht : u.answer .ok 0 = t) : exec .retire s = .next t := by
  have hcommand : exec .retire s = .next (s.command (firstRefusal [(s.ring.isEmpty, .ringEmpty)]) s.retireHead) := rfl
  rw [hcommand, hr, List.isEmpty_cons, firstRefusal_passes, firstRefusal, command_taken _ _ h.1 h.2, State.retireHead, hr,
    List.tail_cons, hu, ht]

end

/-- Settles O21: where nothing waits, RETIRE only removes the head; otherwise the first item of the posting order posts. -/
theorem retirePostsInOrder : Obligations.RetirePostsInOrder := by
  refine fun s h => ⟨fun hr => ?_, fun head rest hr => ⟨fun hw => ?_, fun r v hfind hv => ?_, fun hq =>
    ⟨fun e hc => ?_, fun a hc hb => ⟨fun e he => ?_, fun e hs he hd => ?_, fun e c hs hcond he hd => ?_⟩⟩⟩⟩
  · refine refuses_of_command (effect := s.retireHead) (r := .ringEmpty) (v := 0) h ?_
    have hempty : firstRefusal [(s.ring.isEmpty, ResultCode.ringEmpty)] = some .ringEmpty := by rw [hr]; rfl
    rw [← hempty]
    rfl
  · exact exec_retire h hr (postFirstWaiting_none hw) rfl
  · exact exec_retire h hr (postFirstWaiting_verdict hfind hv) rfl
  · exact exec_retire h hr (postFirstWaiting_census hq hc) rfl
  · have ht : (s.store a).takeFirst = some (e, { s.store a with status := none }) := by simp [Store.takeFirst, he]
    refine exec_retire h hr (postFirstWaiting_store hq hc hb ht) ?_
    cases hd : e.data with
    | attention c =>
      rw [postFrom_attention hd]
      rfl
    | _ =>
      rw [postFrom_other (by simp [hd])]
      rfl
  · have ht : (s.store a).takeFirst = some (e, { s.store a with condition := none }) := by simp [Store.takeFirst, hs, he]
    refine exec_retire h hr (postFirstWaiting_store hq hc hb ht) ?_
    rw [postFrom_other hd]
    rfl
  · have ht : (s.store a).takeFirst = some (e, { s.store a with attention := none }) := by
      simp [Store.takeFirst, hs, hcond, he]
    refine exec_retire h hr (postFirstWaiting_store hq hc hb ht) ?_
    rw [postFrom_attention hd]
    rfl

/-! ## Events -/

/-- No slot is free for a new item where the ring is full or anything waits (R147). -/
theorem freeSlots_eq_zero {s : State} (h : 16 ≤ s.occupancy ∨ s.waiting ≠ 0) : ¬0 < s.freeSlots := by
  rw [State.freeSlots]
  split <;> omega

/-- CAUSE.BACKLOG is set where the first item begins to wait (R156). -/
theorem cause_backlog (s : State) : (s.cause ||| if s.waiting = 0 then 0x80 else 0) =
    if s.waiting = 0 then s.cause ||| 0x80 else s.cause := by
  split <;> simp

/-- Settles O22: with a slot free the event posts; without one it takes its place in the census slot or a store. -/
theorem eventPostsOrWaits : Obligations.EventPostsOrWaits := by
  refine fun s e => ⟨fun ho hw => ?_, fun h => ⟨fun he => ?_, fun a he => ?_⟩⟩
  · rw [State.raise, if_pos ((roomNow_iff s).mpr ⟨ho, hw⟩)]
    rfl
  · rw [raiseCensus_eq he]
    simp only [freeSlots_eq_zero h, if_false, cause_backlog]
  · rw [raise_eq he, if_neg (freeSlots_eq_zero h), cause_backlog]
    unfold Store.place
    cases e.data <;> rfl

end Sys2Proof.Machine
end

section
/-! PROOF. The line engine, the arbiter, the commands, the window and the timers keep the bounds of the queue and the ring and the
stores. -/

namespace Sys2Proof.Machine

section
variable {L : Prop} {s : State}

/-! ## What the laws say of an exchange -/

/-- The laws say the same of the entries of an exchange where its source and its frame, the states and the attention states of
the entries, and the round are the same. -/
theorem State.AnswerFits.of_entries {t : State} {x y : Exchange} (h : s.AnswerFits x)
    (hentry : ∀ a : Addr, (t.entry a).state = (s.entry a).state ∧ (t.entry a).attention = (s.entry a).attention)
    (hround : t.round = s.round) (hsource : y.source = x.source) (hframe : y.frame = x.frame) : t.AnswerFits y := by
  obtain ⟨hrelease, hsweep, hcensus⟩ := h
  refine ⟨fun hy a ha => ?_, fun hy hk a ha => ?_, fun u a hr => ?_⟩
  · rw [(hentry a).1]
    exact hrelease (hsource ▸ hy) a (hframe ▸ ha)
  · rw [(hentry a).2]
    exact hsweep (hsource ▸ hy) (hframe ▸ hk) a (hframe ▸ ha)
  · rw [(hentry a).2]
    exact hcensus u a (hround ▸ hr)

theorem State.EndFits.of_roster {t : State} {x : Exchange} {e : ExchangeEnd} (h : s.EndFits x e) (hro : t.roster = s.roster)
    (hround : t.round = s.round) : t.EndFits x e :=
  h.imp_right <| Or.imp_right <| Or.imp_right fun k =>
    k.of_entries (fun a => by rw [State.entry_congr hro]; exact ⟨rfl, rfl⟩) hround rfl rfl

/-! ## The line engine -/

theorem settleYield_ring (s : State) : KeepsRing L s s.settleYield := by
  unfold State.settleYield
  split <;> exact .of_eq rfl rfl rfl rfl rfl

theorem lineFreed_ring (s : State) : KeepsRing L s s.lineFreed := by
  unfold State.lineFreed
  split
  · exact KeepsRing.trans (t := { s with lineState := .idle }) (.of_eq rfl rfl rfl rfl rfl) (settleYield_ring _)
  all_goals exact .of_eq rfl rfl rfl rfl rfl

/-- The emptying stage leaves every queue, store and entry empty (R172). -/
theorem finishClear_ring (s u : State) : KeepsRing L s u.finishClear := .of_empty rfl rfl rfl rfl rfl

theorem drained_ring (s : State) : KeepsRing L s s.drained := by
  unfold State.drained
  split
  · exact .refl s
  · exact finishClear_ring s _

theorem endExchange_ring {e : ExchangeEnd} (h : L → ∀ x, s.exchange = some x → x.discard = false → s.EndFits x e) :
    KeepsRing L s (s.endExchange e) := by
  unfold State.endExchange
  split
  · exact .refl s
  rename_i x hx
  have hoff : KeepsRing L s { s with exchange := none } := .of_eq rfl rfl rfl rfl rfl
  dsimp only
  split
  · exact finishClear_ring s _
  split
  · exact (hoff.trans (lineFreed_ring _)).trans (drained_ring _)
  · rename_i hdiscard
    have hhand : KeepsRing L { s with exchange := none } (State.handEnd x e { s with exchange := none }) :=
      handEnd_ring fun hl => (h hl x hx (by simpa using hdiscard)).of_roster rfl rfl
    exact (hoff.trans hhand).trans (lineFreed_ring _)

theorem lineFault_ring (kind : FaultKind) (s : State) : KeepsRing L s (s.lineFault kind) := by
  unfold State.lineFault
  split
  · exact .refl s
  rename_i x _
  dsimp only
  have hoff : KeepsRing L s { s with exchange := none } := .of_eq rfl rfl rfl rfl rfl
  have hhand : KeepsRing L s (if x.discard = true then { s with exchange := none }
      else State.handEnd x .faulted { s with exchange := none }) := by
    split
    · exact hoff
    · exact hoff.trans (handEnd_ring fun _ => .inr (.inr (.inl rfl)))
  split
  · exact finishClear_ring s _
  · exact ((hhand.trans (endRunLine_ring _)).trans (abandonNegotiation_ring _)).keep rfl rfl rfl rfl rfl

theorem leadIn_ring (x : Exchange) (s : State) : KeepsRing L s (s.leadIn x) := by
  have hlead : KeepsRing L s { s with exchange := some (s.exchangeAtLeadIn x), lineRateInForce := s.lineRate } :=
    .of_eq rfl rfl rfl rfl rfl
  unfold State.leadIn
  dsimp only
  split
  · exact hlead.trans (modifyRequest_ring fun _ _ => ⟨rfl, rfl⟩)
  · exact hlead

theorem lineCheck_ring (x : Exchange) (mda : Level) (s : State) : KeepsRing L s (s.lineCheck x mda) := by
  unfold State.lineCheck
  split
  · exact leadIn_ring x s
  · exact .of_eq rfl rfl rfl rfl rfl

theorem openExchange_ring (x : Exchange) (mda : Level) (s : State) : KeepsRing L s (s.openExchange x mda) :=
  KeepsRing.trans (t := { s with lineState := .busy }) (.of_eq rfl rfl rfl rfl rfl) (lineCheck_ring x mda _)

theorem commandTail_ring (x : Exchange) (s : State) : KeepsRing L s (s.commandTail x) := by
  unfold State.commandTail
  split
  · exact endExchange_ring fun _ _ _ _ => .inl rfl
  all_goals exact .of_eq rfl rfl rfl rfl rfl

theorem interrupt_ring (s : State) : KeepsRing L s s.interrupt := by
  unfold State.interrupt
  split
  · exact .refl s
  rename_i x _
  have htaken : KeepsRing L s { s with exchange := some { x with interruptTaken := true } } := .of_eq rfl rfl rfl rfl rfl
  dsimp only
  split
  · exact htaken
  · exact htaken.trans (endExchange_ring fun _ _ _ _ => .inr (.inl rfl))

/-- An attempt that fails ends the exchange, interrupted or exhausted, or is repeated (R36). -/
theorem attemptFails_ring {x : Exchange} (reason : Failure) (h : L → x.discard = false → s.AnswerFits x) :
    KeepsRing L s (s.attemptFails x reason) := by
  have hfailed : KeepsRing L s { s with exchange := some { x with lastFailure := some reason } } := .of_eq rfl rfl rfl rfl rfl
  unfold State.attemptFails
  dsimp only
  split
  · exact hfailed.trans (endExchange_ring fun _ _ _ _ => .inr (.inl rfl))
  split
  · exact .of_eq rfl rfl rfl rfl rfl
  · refine hfailed.trans (endExchange_ring fun hl y hy hd => ?_)
    obtain rfl : { x with lastFailure := some reason } = y := Option.some.inj hy
    exact .inr (.inr (.inr ((h hl hd).of_entries (fun _ => ⟨rfl, rfl⟩) rfl rfl rfl)))

/-! ## An accepted answer -/

/-- What an accepted answer sets in an entry leaves its state and its attention state (R34, R35). -/
theorem noteAnswer_entry (f : Frame) (answer : Answer) (s : State) (b : Addr) :
    ((s.noteAnswer f answer).entry b).state = (s.entry b).state ∧
      ((s.noteAnswer f answer).entry b).attention = (s.entry b).attention := by
  unfold State.noteAnswer
  split
  · exact ⟨rfl, rfl⟩
  · rename_i a _
    obtain ⟨hstate, -, -, hattention⟩ := answered_keeps s.lineState f.kind answer s.holdOffTime (s.entry a)
    rw [State.entry_modifyEntry]
    split
    · rename_i hba
      subst hba
      exact ⟨hstate, hattention⟩
    · exact ⟨rfl, rfl⟩

theorem noteAnswer_exchange (f : Frame) (answer : Answer) (s : State) :
    (s.noteAnswer f answer).exchange = s.exchange ∧ (s.noteAnswer f answer).round = s.round := by
  unfold State.noteAnswer
  split <;> exact ⟨rfl, rfl⟩

theorem noteAnswer_ring (f : Frame) (answer : Answer) (s : State) : KeepsRing L s (s.noteAnswer f answer) := by
  unfold State.noteAnswer
  split
  · exact .refl s
  · rename_i a _
    obtain ⟨hstate, -, -, hattention⟩ := answered_keeps s.lineState f.kind answer s.holdOffTime (s.entry a)
    exact setEntry_ring fun _ hfit => hfit.same hattention fun hrel => hstate ▸ hrel

theorem State.AnswerFits.noteAnswer {x : Exchange} (h : s.AnswerFits x) (f : Frame) (answer : Answer) :
    (s.noteAnswer f answer).AnswerFits x :=
  h.of_entries (noteAnswer_entry f answer s) (noteAnswer_exchange f answer s).2 rfl rfl

theorem acceptAnswer_ring {x : Exchange} (answer : Answer) (hx : s.exchange = some x)
    (h : L → x.discard = false → s.AnswerFits x) : KeepsRing L s (s.acceptAnswer x answer) := by
  refine (noteAnswer_ring x.frame answer s).trans ?_
  unfold State.acceptAnswer
  dsimp only
  split
  · exact attemptFails_ring _ fun hl hd => (h hl hd).noteAnswer _ _
  · refine endExchange_ring fun hl y hy hd => ?_
    obtain rfl : x = y := Option.some.inj (hx.symm.trans ((noteAnswer_exchange x.frame answer s).1 ▸ hy))
    exact .inr (.inr (.inr ((h hl hd).noteAnswer _ _)))

/-! ## A field -/

theorem closeField_ring {after : State → State} (h : ∀ t, KeepsRing L t (after t)) (s : State) :
    KeepsRing L s (s.closeField after) :=
  have hoff : KeepsRing L s { s with exchange := none } := .of_eq rfl rfl rfl rfl rfl
  (hoff.trans (h _)).trans (lineFreed_ring _)

/-- A field that has been read ends its round, or frees a RELEASING holder and goes on to its CLAIM (R59 to R61). -/
theorem judgeField_ring (x : Exchange) (u : UnitNumber) (check : Byte) (mda : Level) (s : State) :
    KeepsRing L s (s.judgeField x u check mda) := by
  unfold State.judgeField
  split
  · exact closeField_ring (roundEndsRun_ring _ _) s
  split
  · exact closeField_ring failRound_ring s
  have hassign := assignAddress_ring (L := L) u s
  generalize s.assignAddress u = p at hassign
  obtain ⟨t, chosen⟩ := p
  dsimp only at hassign ⊢
  split
  · exact hassign.trans (closeField_ring (roundEndsRun_ring _ _) t)
  · rename_i a rejoin
    exact (hassign.keep (u := { t with round := some (.claim u a rejoin) }) rfl rfl rfl rfl rfl).trans (lineCheck_ring _ mda _)

/-! ## Grants -/

theorem grantCensus_ring (mda : Level) (s : State) : KeepsRing L s (s.grantCensus mda) := by
  unfold State.grantCensus
  split
  · exact KeepsRing.trans (t := { s with round := some .dismiss }) (.of_eq rfl rfl rfl rfl rfl) (openExchange_ring _ mda _)
  · exact KeepsRing.trans (t := { s with round := some .field }) (.of_eq rfl rfl rfl rfl rfl) (openExchange_ring _ mda _)

theorem startNegotiation_ring (a : Addr) (s : State) : KeepsRing L s (s.startNegotiation a) :=
  have hset : KeepsRing L s (s.modifyEntry a fun e => { e with state := .negotiating, due := false, pages := [] }) :=
    modifyEntry_ring (fun _ => rfl) (by simp)
  hset.keep rfl rfl rfl rfl rfl

theorem grantNegotiate_ring (mda : Level) (s : State) : KeepsRing L s (s.grantNegotiate mda) := by
  have hpass : KeepsRing L s { s with passOver := s.passOverAfter, yield := false } := .of_eq rfl rfl rfl rfl rfl
  unfold State.grantNegotiate
  dsimp only
  split
  · exact hpass.trans (openExchange_ring _ mda _)
  · exact (hpass.trans (startNegotiation_ring _ _)).trans (openExchange_ring _ mda _)
  · exact .refl s

/-- The request that DISPATCH starts is the first of the queue that is ready (R119, R121). -/
theorem startFirst_isReady {older rest queue : List Request} {r : Request} (h : s.startFirst older rest = some (r, queue)) :
    ∃ before after, rest = before ++ r :: after ∧ queue = before ++ { r with phase := .onLine } :: after ∧
      s.requestReady (older ++ before) r = true := by
  induction rest generalizing older queue with
  | nil => simp [State.startFirst] at h
  | cons q rest ih =>
    unfold State.startFirst at h
    split at h
    · rename_i hready
      obtain ⟨rfl, rfl⟩ : q = r ∧ { q with phase := .onLine } :: rest = queue := by simpa using h
      exact ⟨[], rest, rfl, rfl, by simpa using hready⟩
    · obtain ⟨⟨p, l⟩, hl, hpl⟩ := Option.map_eq_some_iff.mp h
      obtain ⟨rfl, rfl⟩ : p = r ∧ q :: l = queue := by simpa using hpl
      obtain ⟨before, after, rfl, rfl, hready⟩ := ih hl
      exact ⟨q :: before, after, rfl, rfl, by simpa using hready⟩

/-- A ready request has no verdict, and holds a reservation or finds a slot free (R119, R141). -/
theorem requestReady_starts {older : List Request} {r : Request} (h : s.requestReady older r = true) :
    r.verdict = none ∧ (r.phase = .held ∨ r.phase = .unstarted ∧ s.occupancy < 16) := by
  have honline : r.phase ≠ .onLine := fun hr => by simp [State.requestReady, hr] at h
  obtain ⟨hverdict, hroom, -⟩ := (requestReady_iff honline).mp h
  exact ⟨hverdict, hroom⟩

/-- A request that comes ON-LINE for the first time takes a reservation, for which a slot is free (R118, R141). -/
theorem dispatched_ring {older : List Request} {before after : List Request} {r : Request}
    (hq : s.queue = before ++ r :: after) (hready : s.requestReady older r = true) :
    KeepsRing L s { s with passOver := 0, yield := false, queue := before ++ { r with phase := .onLine } :: after } := by
  obtain ⟨hverdict, hroom⟩ := requestReady_starts hready
  generalize ht : ({ s with
    passOver := 0, yield := false, queue := before ++ { r with phase := .onLine } :: after } : State) = t
  have hring : t.ring.length = s.ring.length := by rw [← ht]
  have hwaiting : t.waiting = s.waiting := by
    rw [← ht, waiting_eq, waiting_eq, waitingOf, waitingOf, hq]
    simp [Request.verdictWaits, hverdict]
  have hreserved : reservedIn t.queue = reservedIn s.queue + if r.phase = .unstarted then 1 else 0 := by
    rw [← ht, hq]
    rcases hroom with hheld | ⟨hnew, -⟩ <;> simp [reservedIn, Request.reserved, List.countP_cons, Nat.add_assoc, *]
  refine ⟨fun k => ?_, fun k => ?_, fun _ k => ht ▸ k⟩
  · rw [State.QueueLaw, hq] at k
    rw [State.QueueLaw, ← ht]
    simpa using k
  · rcases hroom with hheld | ⟨hnew, hless⟩
    · refine occupancyLaw_congr ?_ (fun hw => hwaiting ▸ hw) k
      rw [occupancy_eq, occupancy_eq, hring, hreserved, if_neg (by simp [hheld]), Nat.add_zero]
    · rw [if_pos hnew] at hreserved
      rw [occupancy_eq] at hless
      refine ⟨by rw [occupancy_eq]; omega, fun hw => ?_⟩
      have := k.2 (hwaiting ▸ hw)
      rw [occupancy_eq] at this
      omega

theorem grantDispatch_ring (mda : Level) (s : State) : KeepsRing L s (s.grantDispatch mda) := by
  unfold State.grantDispatch
  split
  · exact .refl s
  rename_i r queue hstart
  obtain ⟨before, after, hq, rfl, hready⟩ := startFirst_isReady hstart
  exact (dispatched_ring hq hready).trans (openExchange_ring _ mda _)

theorem grant_ring (mda : Level) (s : State) : KeepsRing L s (s.grant mda) := by
  have hset := settleYield_ring (L := L) s
  unfold State.grant
  dsimp only
  generalize s.settleYield = u at hset
  split
  · split
    · exact (hset.keep (u := { u with yield := false }) rfl rfl rfl rfl rfl).trans (openExchange_ring _ mda _)
    · exact .refl s
  · exact hset.trans (grantCensus_ring mda u)
  · exact hset.trans (grantNegotiate_ring mda u)
  · split
    · rename_i a _
      exact (hset.keep (u := { u with passOver := u.passOverAfter, yield := false, sweepPointer := a.succ })
        rfl rfl rfl rfl rfl).trans (openExchange_ring _ mda _)
    · exact .refl s
  · exact hset.trans (grantDispatch_ring mda u)
  all_goals exact .refl s

/-! ## LINE DISABLE, CLEAR, ABORT and SUBMIT -/

theorem disableWaiting_ring (s : State) : KeepsRing L s s.disableWaiting := by
  have hrun : KeepsRing L s (if s.onLineOf .census then s else s.endRunLine) := by
    split
    · exact .refl s
    · exact endRunLine_ring s
  unfold State.disableWaiting
  dsimp only
  split
  · exact hrun
  · exact hrun.trans (abandonNegotiation_ring _)

theorem disableLine_ring (s : State) : KeepsRing L s s.disableLine := by
  have hwaiting := disableWaiting_ring (L := L) s
  unfold State.disableLine
  dsimp only
  split
  · exact (hwaiting.keep (u := { s.disableWaiting with lineState := .draining }) rfl rfl rfl rfl rfl).trans (interrupt_ring _)
  · exact hwaiting.keep rfl rfl rfl rfl rfl

theorem clearTaken_ring (s : State) : KeepsRing L s s.clearTaken := by
  have hdiscard : KeepsRing L s (State.markDiscard { s.dropRun with clearing := true }) := .of_eq rfl rfl rfl rfl rfl
  have hmarked := hdiscard.trans (interrupt_ring _)
  unfold State.clearTaken
  dsimp only
  split
  · exact hmarked
  · exact hmarked
  · exact .of_eq rfl rfl rfl rfl rfl
  all_goals exact finishClear_ring s _

theorem abortRequest_ring (r : Request) (s : State) : KeepsRing L s (s.abortRequest r) := by
  have hmarked : KeepsRing L s (s.markAborted r.ticket) := modifyRequest_ring fun _ _ => ⟨rfl, rfl⟩
  unfold State.abortRequest
  split
  · exact hmarked.trans (giveVerdict_ring _ _ _)
  · exact hmarked.trans (giveVerdict_ring _ _ _)
  split
  · exact .refl s
  · exact hmarked.trans (interrupt_ring _)

/-- A SUBMIT that is not refused finds a place in the queue (R114, R117). -/
theorem submitRefusal_queue (h : s.submitRefusal = none) : s.queue.length < 16 := by
  unfold State.submitRefusal at h
  split at h
  · simp at h
  · rename_i hpass
    have hfull : decide (Config.queueLimit ≤ s.queue.length) = false :=
      firstRefusal_eq_none hpass (_, .queueFull) (.tail _ (.head _))
    exact Nat.lt_of_not_le (of_decide_eq_false hfull)

/-- The request that SUBMIT appends has no verdict and holds no reservation (R115, R118). -/
theorem submitRequest_ring (h : s.submitRefusal = none) : KeepsRing L s s.submitRequest := by
  unfold State.submitRequest
  split
  · exact .refl s
  · refine ⟨fun _ => ?_, occupancyLaw_congr ?_ fun hw => ?_, fun _ => id⟩
    · rw [State.QueueLaw, List.length_append, List.length_singleton]
      exact submitRefusal_queue h
    · simp [occupancy_eq, reservedIn, State.stagedRequest, Request.reserved]
    · simpa [waiting_eq, waitingOf, State.stagedRequest, Request.verdictWaits] using hw

/-! ## The window and the timers -/

theorem writeBinding_ring (p : Option Binding → Bool) (row : Option Binding) (s : State) :
    KeepsRing L s (s.writeBinding p row) := by
  rcases writeBinding_cases p row s with h | ⟨i, h⟩ <;> rw [h] <;> exact .of_eq rfl rfl rfl rfl rfl

theorem writeBind_ring (a : Addr) (u : UnitNumber) (s : State) : KeepsRing L s (s.writeBind a u) := by
  unfold State.writeBind
  split
  · exact .refl s
  · exact writeBinding_ring _ _ s

theorem commitOffer_ring (s : State) : KeepsRing L s s.commitOffer := by
  unfold State.commitOffer
  split <;> exact .of_eq rfl rfl rfl rfl rfl

theorem advancePointer_ring (s : State) : KeepsRing L s s.advancePointer := by
  unfold State.advancePointer
  split <;> exact .of_eq rfl rfl rfl rfl rfl

theorem storeByte_ring (v : Byte) (s : State) : KeepsRing L s (s.storeByte v) := by
  unfold State.storeByte
  split <;> exact .of_eq rfl rfl rfl rfl rfl

theorem writeTableByte_ring (v : Byte) (s : State) : KeepsRing L s (s.writeTableByte v) := by
  unfold State.writeTableByte
  split
  · exact (storeByte_ring v s).trans (advancePointer_ring _)
  · exact .refl s

theorem writePlain_ring (r : Register) (v : Byte) (s : State) : KeepsRing L s (s.writePlain r v) := by
  cases r <;> exact .of_eq rfl rfl rfl rfl rfl

/-- A sweep tick sets due flags (R98). -/
theorem tick_ring (s : State) : KeepsRing L s s.tick :=
  have hmarked : KeepsRing L s (s.mapEntries fun a e => { e with due := e.due || e.marked (s.tickCounter + 1).toNat a }) :=
    mapEntries_ring (fun _ _ => rfl) fun _ _ => rfl
  hmarked.keep rfl rfl rfl rfl rfl

theorem underLimit_keeps (limit : Nat) (e : Entry) :
    (e.underLimit limit).attention = e.attention ∧ (e.underLimit limit).state = e.state := by
  unfold Entry.underLimit
  split <;> exact ⟨rfl, rfl⟩

/-- A lower miss limit lowers miss counts (R109). -/
theorem writeMissLimit_ring (v : Byte) (s : State) : KeepsRing L s (s.writeMissLimit v) :=
  have hlimited : KeepsRing L s (s.mapEntries fun _ e => e.underLimit (clamp 1 15 v).toNat) :=
    mapEntries_ring (fun _ e => (underLimit_keeps _ e).1) fun _ e => (underLimit_keeps _ e).2
  hlimited.keep rfl rfl rfl rfl rfl

theorem elapse_ring (s : State) : KeepsRing L s s.elapse := by
  have htick (t : State) : KeepsRing L t t.elapseTick := by
    unfold State.elapseTick
    split
    · split
      · exact .of_eq rfl rfl rfl rfl rfl
      · exact tick_ring t
    · exact .refl t
  have hauto (t : State) : KeepsRing L t t.elapseAuto := by
    unfold State.elapseAuto
    split
    · exact .refl t
    split
    · split <;> exact .of_eq rfl rfl rfl rfl rfl
    · exact .refl t
  have hhold : KeepsRing L s s.elapseHoldOffs := mapEntries_ring (fun _ _ => rfl) fun _ _ => rfl
  unfold State.elapse State.unlessReset
  split
  · exact .refl s
  · exact (hhold.trans (htick _)).trans (hauto _)

end

end Sys2Proof.Machine
end

section
/-! PROOF. Every step keeps the bounds of the queue and the ring (O54) and the laws of the pending-event stores (O58). -/

namespace Sys2Proof.Machine

/-! ## What the laws say of the exchange on the line -/

/-- The laws of the line and of the roster say of the exchange on the line what its end needs (R8, R18, R101). -/
theorem State.Sound.answerFits {s : State} {x : Exchange} (h : s.Sound) (hx : s.exchange = some x) (hd : x.discard = false) :
    s.AnswerFits x := by
  obtain ⟨-, hwork⟩ := h.line.source
  obtain ⟨hsource, -⟩ := hwork x hx
  obtain ⟨-, -, -, -, -, -, -, hsweep⟩ := h.line.frame x hx
  refine ⟨fun hr a ha => ?_, hsweep, fun u a hr => ?_⟩
  · obtain ⟨b, hb, hreleasing⟩ := (hsource hd).2 hr
    obtain rfl : b = a := Option.some.inj (hb.symm.trans ha)
    exact hreleasing
  · obtain ⟨hnew, -⟩ := h.line.round u a false hr
    rw [h.roster.free a (hnew rfl).1]
    exact nofun

/-! ## Outcomes -/

/-- What an outcome leaves keeps the ring and the stores, where the laws of the line and of the roster hold before. -/
def RingKept (s : State) (o : Host.Outcome State Fault Refusal) : Prop := ∀ t, o = .next t → KeepsRing s.Sound s t

theorem KeepsRing.next {s t : State} (h : KeepsRing s.Sound s t) : RingKept s (.next t) :=
  fun _ ht => Host.Outcome.next.inj ht ▸ h

section
variable {s : State}

theorem KeepsRing.unlessReset {t : State} (h : KeepsRing s.Sound s t) : RingKept s (.next (s.unlessReset t)) := by
  refine KeepsRing.next ?_
  unfold State.unlessReset
  split
  · exact .refl s
  · exact h

/-- A command keeps what its effects keep where it is not refused. -/
theorem command_ring {refusal : Option ResultCode} {effect : State} {argument : Byte}
    (h : refusal = none → KeepsRing s.Sound s effect) : RingKept s (.next (s.command refusal effect argument)) := by
  unfold State.command
  refine KeepsRing.unlessReset ?_
  split
  · exact .of_eq rfl rfl rfl rfl rfl
  split
  · exact .of_eq rfl rfl rfl rfl rfl
  · exact (h rfl).keep rfl rfl rfl rfl rfl

/-! ## Commands -/

theorem execAbort_ring : RingKept s (execAbort s) := by
  unfold execAbort
  cases s.request? s.args[0] with
  | none => exact command_ring fun _ => .refl s
  | some r => exact command_ring fun _ => abortRequest_ring r s

theorem execRelease_ring : RingKept s (execRelease s) := by
  unfold execRelease
  cases s.argAddress with
  | none => exact command_ring fun _ => .refl s
  | some a => exact command_ring fun _ => releaseEntry_ring a s

theorem execRenegotiate_ring : RingKept s (execRenegotiate s) := by
  unfold execRenegotiate
  cases s.argAddress with
  | none => exact command_ring fun _ => .refl s
  | some a => exact command_ring fun _ => enterPending_ring a s

theorem execBind_ring : RingKept s (execBind s) := by
  unfold execBind
  cases s.argAddress with
  | none => exact command_ring fun _ => .refl s
  | some a => exact command_ring fun _ => writeBind_ring a _ s

theorem execUnbind_ring : RingKept s (execUnbind s) := by
  unfold execUnbind
  cases s.argAddress with
  | none => exact command_ring fun _ => .refl s
  | some a => exact command_ring fun _ => writeBinding_ring _ _ s

/-- A RETIRE that is not refused finds a record (R143). -/
theorem execRetire_ring : RingKept s (execRetire s) := by
  refine command_ring fun h => retireHead_ring fun hr => ?_
  rw [hr] at h
  exact absurd h (by simp [firstRefusal])

theorem writeCommand_ring (code : Byte) : RingKept s (s.writeCommand code) := by
  unfold State.writeCommand
  split
  · exact command_ring fun _ => .of_eq rfl rfl rfl rfl rfl
  · exact command_ring fun _ => disableLine_ring s
  · exact command_ring fun _ => .of_eq rfl rfl rfl rfl rfl
  · exact command_ring fun _ => .of_eq rfl rfl rfl rfl rfl
  · exact command_ring fun _ => stopRun_ring s
  · exact command_ring submitRequest_ring
  · exact execAbort_ring
  · exact execRetire_ring
  · exact execRelease_ring
  · exact execRenegotiate_ring
  · exact execBind_ring
  · exact execUnbind_ring
  · exact command_ring fun _ => commitOffer_ring s
  · exact command_ring fun _ => clearTaken_ring s
  · exact KeepsRing.unlessReset (.of_eq rfl rfl rfl rfl rfl)

/-! ## Register accesses -/

theorem writeRegister_ring (r : Register) (v : Byte) : RingKept s (s.writeRegister r v) := by
  unfold State.writeRegister
  split
  case h_1 => exact writeCommand_ring v
  case h_4 => exact (writeTableByte_ring v s).unlessReset
  case h_2 | h_3 | h_5 | h_6 | h_7 | h_9 => exact KeepsRing.unlessReset (.of_eq rfl rfl rfl rfl rfl)
  case h_8 => exact (writeMissLimit_ring v s).unlessReset
  all_goals exact (writePlain_ring _ v s).unlessReset

theorem execTabdataRead_ring : RingKept s (execTabdataRead s) := by
  refine KeepsRing.next ?_
  split
  · exact .of_eq rfl rfl rfl rfl rfl
  · exact (advancePointer_ring s).keep rfl rfl rfl rfl rfl

/-! ## Events -/

/-- An event that acts where its condition holds. -/
theorem ringKept_of_ite {p : Prop} [Decidable p] {t : State} (h : KeepsRing s.Sound s t) :
    RingKept s (.next (s.unlessReset (if p then t else s))) := by
  refine KeepsRing.unlessReset ?_
  split
  · exact h
  · exact .refl s

/-- An event of the exchange on the line. -/
theorem ringKept_of_exchange {p : Exchange → Bool} {act : Exchange → State}
    (h : ∀ x, s.exchange = some x → KeepsRing s.Sound s (act x)) :
    RingKept s (.next (s.unlessReset (match s.exchangeIn p with | some x => act x | none => s))) := by
  refine KeepsRing.unlessReset ?_
  cases hx : s.exchangeIn p with
  | none => exact .refl s
  | some x => exact h x (exchangeIn_some hx).1

theorem execHoldOffEnd_ring (n : Nat) : RingKept s (execHoldOffEnd n s) := by
  refine KeepsRing.unlessReset ?_
  split
  · exact .refl s
  · exact modifyEntry_ring (fun _ => rfl) fun _ => id

theorem execClockFault_ring : RingKept s (execClockFault s) := by
  refine KeepsRing.unlessReset ?_
  split
  · exact .of_eq rfl rfl rfl rfl rfl
  split
  · exact lineFault_ring _ s
  · exact .refl s

theorem execResponseFrame_ring (wire : List Byte) (tail : Level) : RingKept s (execResponseFrame wire tail s) := by
  refine KeepsRing.unlessReset ?_
  split
  · exact .refl s
  rename_i x hin
  obtain ⟨hx, -⟩ := exchangeIn_some hin
  split
  · exact acceptAnswer_ring _ hx fun h => h.answerFits hx
  · exact attemptFails_ring _ fun h => h.answerFits hx

theorem execFieldEnd_ring (u : UnitNumber) (check : Byte) (mda : Level) : RingKept s (execFieldEnd u check mda s) := by
  refine KeepsRing.unlessReset ?_
  split
  · exact .refl s
  split
  · exact endExchange_ring fun _ _ _ _ => .inr (.inl rfl)
  · exact judgeField_ring _ u check mda s

/-! ## Every command and every event -/

theorem exec_ring (c : Instr) : RingKept s (exec c s) :=
  match c with
  | .lineEnable => command_ring fun _ => .of_eq rfl rfl rfl rfl rfl
  | .lineDisable => command_ring fun _ => disableLine_ring s
  | .lineRecover => command_ring fun _ => .of_eq rfl rfl rfl rfl rfl
  | .censusStart => command_ring fun _ => .of_eq rfl rfl rfl rfl rfl
  | .censusStop => command_ring fun _ => stopRun_ring s
  | .submit => command_ring submitRequest_ring
  | .abort => execAbort_ring
  | .retire => execRetire_ring
  | .release => execRelease_ring
  | .renegotiate => execRenegotiate_ring
  | .bind => execBind_ring
  | .unbind => execUnbind_ring
  | .commitOffer => command_ring fun _ => commitOffer_ring s
  | .clear => command_ring fun _ => clearTaken_ring s
  | .badCommand code => writeCommand_ring code
  | .tabselWrite _ => KeepsRing.unlessReset (.of_eq rfl rfl rfl rfl rfl)
  | .tabidxWrite _ => KeepsRing.unlessReset (.of_eq rfl rfl rfl rfl rfl)
  | .tabdataRead => execTabdataRead_ring
  | .tabdataWrite v => (writeTableByte_ring v s).unlessReset
  | .causeWrite _ => KeepsRing.unlessReset (.of_eq rfl rfl rfl rfl rfl)
  | .enableWrite _ => KeepsRing.unlessReset (.of_eq rfl rfl rfl rfl rfl)
  | .sweepivlWrite _ => KeepsRing.unlessReset (.of_eq rfl rfl rfl rfl rfl)
  | .misslimWrite v => (writeMissLimit_ring v s).unlessReset
  | .autocensusWrite _ => KeepsRing.unlessReset (.of_eq rfl rfl rfl rfl rfl)
  | .registerWrite address v => writeRegister_ring (registerAt address) v
  | .hardwareReset => KeepsRing.next (.of_empty rfl rfl rfl rfl rfl)
  | .sweepTick => ringKept_of_ite (tick_ring s)
  | .autoCensusExpiry => ringKept_of_ite (.of_eq rfl rfl rfl rfl rfl)
  | .holdOffEnd n => execHoldOffEnd_ring n
  | .lineGrant mda => ringKept_of_ite (grant_ring mda s)
  | .clearDismiss mda => ringKept_of_ite (openExchange_ring _ mda s)
  | .lineCheckCleared => ringKept_of_exchange fun x _ => leadIn_ring x s
  | .clearWaitExpiry => ringKept_of_exchange (act := fun _ => s.lineFault .stuck) fun _ _ => lineFault_ring .stuck s
  | .contention => ringKept_of_exchange fun _ hx => attemptFails_ring .contention fun h => h.answerFits hx
  | .clockFault => execClockFault_ring
  | .commandSent => ringKept_of_exchange fun x _ => commandTail_ring x s
  | .replyWindowExpiry => ringKept_of_exchange fun _ hx => attemptFails_ring .noAnswer fun h => h.answerFits hx
  | .responseFrame wire tail => execResponseFrame_ring wire tail
  | .retryGapEnd mda => ringKept_of_exchange fun x _ => lineCheck_ring x mda s
  | .fieldEnd u check mda => execFieldEnd_ring u check mda
  | .recoverySuccess => ringKept_of_ite (.of_eq rfl rfl rfl rfl rfl)
  | .recoveryTimeout => ringKept_of_ite (.of_eq rfl rfl rfl rfl rfl)
  | .resetRelease => KeepsRing.next (.of_eq rfl rfl rfl rfl rfl)

end

/-- Every step keeps the bounds of the queue and the ring, and where the laws hold before, the stores. -/
theorem step_ring {s t : State} (h : step s = .next t) : KeepsRing s.Sound s t := by
  unfold step at h
  split at h
  · exact Host.Outcome.next.inj h ▸ elapse_ring s
  · rename_i c rest _
    have htaken := exec_ring (s := { s with pending := rest }) c t h
    exact ⟨htaken.queue, htaken.occupancy, fun hs =>
      htaken.stores (hs.of_core ⟨rfl, rfl, rfl, rfl, rfl, rfl, rfl, rfl, rfl, rfl⟩)⟩

/-- The laws of the line and of the roster are among all laws. -/
theorem State.Laws.sound {s : State} (h : s.Laws) : s.Sound := by
  obtain ⟨⟨-, hframe, hsource, honline, hround⟩, ⟨hfifo, hunit, hfree, -, hdue⟩, -, hrows, hheld, -⟩ := h
  exact ⟨⟨⟨hunit, hfree, hdue, hrows, hheld⟩, hfifo⟩, ⟨hframe, hsource, honline, hround⟩⟩

/-- Settles O54: the two bounds are part of what every step keeps, whatever else holds. -/
theorem occupancyLawKept : Obligations.OccupancyLawKept := fun _ _ hocc hqueue hs =>
  ⟨(step_ring hs).occupancy hocc, (step_ring hs).queue hqueue⟩

/-- Settles O58: every store fits its entry after a step, as the laws of the line say which entry an answer acts on. -/
theorem storeLawsKept : Obligations.StoreLawsKept := fun s t h hs => by
  have ⟨_, _, ⟨_, _, _, hattention, hstore⟩, _⟩ := h
  exact (storesFit_iff t).mp ((step_ring hs).stores h.sound ((storesFit_iff s).mpr ⟨hattention, hstore⟩))

end Sys2Proof.Machine
end

section
/-! PROOF. Hardware reset (O3), CLEARING and BAD_COMMAND (O4), LINE ENABLE, LINE RECOVER and the recovery check (O5). -/

namespace Sys2Proof.Machine

section

variable {s : State} {o : Host.Outcome State Fault Refusal} {c : Instr} {code : Byte}

/-! ## What RESET# and the command mechanism decide -/

/-- The outcome is one of the command mechanism (R177). -/
def State.Judges (s : State) (o : Host.Outcome State Fault Refusal) : Prop :=
  ∃ refusal effect argument, o = .next (s.command refusal effect argument)

/-- While RESET# is asserted the outcome is the state as it was (R173, R174). -/
def State.KeptInReset (s : State) (o : Host.Outcome State Fault Refusal) : Prop := s.resetAsserted = true → o = .next s

theorem State.keptInReset_unlessReset (after : State) : s.KeptInReset (.next (s.unlessReset after)) := fun h =>
  congrArg Host.Outcome.next (unlessReset_asserted h)

/-- The command mechanism does nothing while RESET# is asserted (R173, R177). -/
theorem State.Judges.keptInReset (h : s.Judges o) : s.KeptInReset o := by
  obtain ⟨refusal, effect, argument, rfl⟩ := h
  exact State.keptInReset_unlessReset _

/-- The command mechanism refuses with CLEARING during a CLEAR (R170). -/
theorem State.Judges.refuses_clearing (h : s.Judges (exec c s)) (hr : s.Running) (hc : s.clearing = true) :
    Refuses c s 0x02 := by
  obtain ⟨refusal, effect, argument, hexec⟩ := h
  rw [Refuses, hexec, command_clearing refusal effect argument hr hc]
  rfl

/-! ## The commands of the table -/

/-- A command that looks something up goes through the command mechanism whatever it finds. -/
theorem State.Judges.of_lookup {α : Type} {found : Option α} (hnone : found = none → s.Judges o)
    (hsome : ∀ a, found = some a → s.Judges o) : s.Judges o := by
  cases found with
  | none => exact hnone rfl
  | some a => exact hsome a rfl

/-- Every command of the table goes through the command mechanism (R177, R178). -/
theorem exec_judges (h : c ∈ commandTable.map Prod.snd) : s.Judges (exec c s) := by
  cases c with
  | lineEnable | lineDisable | lineRecover | censusStart | censusStop | submit | retire | commitOffer | clear =>
    exact ⟨_, _, _, rfl⟩
  | abort => exact .of_lookup (fun h => ⟨_, _, _, exec_abort_none h⟩) fun _ h => ⟨_, _, _, exec_abort_some h⟩
  | release => exact .of_lookup (fun h => ⟨_, _, _, exec_release_none h⟩) fun _ h => ⟨_, _, _, exec_release_some h⟩
  | renegotiate => exact .of_lookup (fun h => ⟨_, _, _, exec_renegotiate_none h⟩) fun _ h => ⟨_, _, _, exec_renegotiate_some h⟩
  | bind => exact .of_lookup (fun h => ⟨_, _, _, exec_bind_none h⟩) fun _ h => ⟨_, _, _, exec_bind_some h⟩
  | unbind => exact .of_lookup (fun h => ⟨_, _, _, exec_unbind_none h⟩) fun _ h => ⟨_, _, _, exec_unbind_some h⟩
  | _ => simp [commandTable] at h

/-! ## Writes of COMMAND -/

/-- A code that the table does not list names no command of it (R177 step 1). -/
theorem commandOfCode_unlisted (h : ∀ row ∈ commandTable, row.1 ≠ code) : commandOfCode code = .badCommand code := by
  have hnone : commandTable.find? (fun row => row.1 == code) = none := by simpa using h
  rw [commandOfCode, hnone]

/-- A write of COMMAND with such a code answers BAD_COMMAND (R177 step 1). -/
theorem writeCommand_unlisted (h : ∀ row ∈ commandTable, row.1 ≠ code) :
    s.writeCommand code = .next (s.unlessReset s.badCode) := by
  rw [State.writeCommand, commandOfCode_unlisted h]

/-- A code that the table lists names a command of it (R178). -/
theorem commandOfCode_listed (h : ∃ row ∈ commandTable, row.1 = code) :
    commandOfCode code ∈ commandTable.map Prod.snd := by
  obtain ⟨row, hfind⟩ : ∃ row, commandTable.find? (fun row => row.1 == code) = some row := by
    simpa [← Option.isSome_iff_exists, List.find?_isSome] using h
  rw [commandOfCode, hfind]
  exact List.mem_map_of_mem (List.mem_of_find?_eq_some hfind)

/-- A write of COMMAND takes the command that its code names (R177, R178). -/
theorem writeCommand_listed (h : commandOfCode code ∈ commandTable.map Prod.snd) :
    s.writeCommand code = exec (commandOfCode code) s := by
  rw [State.writeCommand]
  generalize commandOfCode code = c at h
  cases c with
  | lineEnable | lineDisable | lineRecover | censusStart | censusStop | submit | abort | retire | release | renegotiate
  | bind | unbind | commitOffer | clear => rfl
  | _ => simp [commandTable] at h

/-! ## While RESET# is asserted -/

theorem writeCommand_keptInReset (code : Byte) : s.KeptInReset (s.writeCommand code) := by
  by_cases h : ∃ row ∈ commandTable, row.1 = code
  · have hlisted := commandOfCode_listed h
    rw [writeCommand_listed hlisted]
    exact (exec_judges hlisted).keptInReset
  · rw [writeCommand_unlisted fun row hrow hcode => h ⟨row, hrow, hcode⟩]
    exact State.keptInReset_unlessReset _

theorem writeRegister_keptInReset (register : Register) (value : Byte) : s.KeptInReset (s.writeRegister register value) := by
  cases register with
  | command => exact writeCommand_keptInReset value
  | _ => exact State.keptInReset_unlessReset _

/-- Every command and event but the two of the reset itself and the TABDATA read does nothing while RESET# is asserted
(R173, R174). -/
theorem exec_keptInReset (hreset : c ≠ .hardwareReset) (hrelease : c ≠ .resetRelease) (hread : c ≠ .tabdataRead) :
    s.KeptInReset (exec c s) := by
  cases c with
  | hardwareReset => exact absurd rfl hreset
  | resetRelease => exact absurd rfl hrelease
  | tabdataRead => exact absurd rfl hread
  | lineEnable | lineDisable | lineRecover | censusStart | censusStop | submit | abort | retire | release | renegotiate
  | bind | unbind | commitOffer | clear => exact (exec_judges (by simp [commandTable])).keptInReset
  | badCommand code => exact writeCommand_keptInReset code
  | registerWrite address value => exact writeRegister_keptInReset (registerAt address) value
  | _ => exact State.keptInReset_unlessReset _

/-- A TABDATA read returns 0x00 while RESET# is asserted, and the pointer stays (R174). -/
theorem exec_tabdataRead_asserted (h : s.resetAsserted = true) : exec .tabdataRead s = .next { s with readData := 0 } := by
  simp [exec, execTabdataRead, h]

end

/-- Settles O3: the reset state is reached whatever the state before, and each command but the TABDATA read leaves it as
it is. -/
theorem hardwareReset : Obligations.HardwareReset := by
  refine ⟨fun s => ⟨_, rfl, rfl, rfl⟩, fun c s h hreset hrelease => ?_⟩
  by_cases hread : c = .tabdataRead
  · subst hread
    exact ⟨_, exec_tabdataRead_asserted h, rfl, fun _ => rfl⟩
  · exact ⟨s, exec_keptInReset hreset hrelease hread h, rfl, fun hc => absurd hc hread⟩

/-- Settles O4: every command of the table goes through the command mechanism, and an unlisted code does not. -/
theorem clearingAndBadCommand : Obligations.ClearingAndBadCommand := by
  refine ⟨fun code c s hrow hr hc => (exec_judges (List.mem_map_of_mem hrow)).refuses_clearing hr hc,
    fun code s hcode hr => ?_⟩
  have hexec : exec (.badCommand code) s = .next (s.unlessReset s.badCode) := writeCommand_unlisted hcode
  rw [Refuses, hexec, unlessReset_released hr]
  rfl

/-! ## LINE ENABLE and LINE RECOVER -/

section

variable {s : State}

theorem exec_lineEnable (s : State) : exec .lineEnable s =
    .next (s.command (firstRefusal [(s.lineState != .off, .wrongLineState)]) { s with lineState := .idle }) := rfl

theorem exec_lineRecover (s : State) : exec .lineRecover s =
    .next (s.command (firstRefusal [(s.lineState != .fault, .wrongLineState)]) { s with lineState := .recovering }) := rfl

/-- LINE ENABLE and LINE RECOVER are each refused in every line state but one (R159, R168). -/
theorem firstRefusal_lineState_ne {l : LineState} (h : s.lineState ≠ l) :
    firstRefusal [(s.lineState != l, .wrongLineState)] = some .wrongLineState := by
  rw [bne_iff_ne.mpr h, firstRefusal_holds]

/-- LINE ENABLE and LINE RECOVER are each taken in one line state (R159, R168). -/
theorem firstRefusal_lineState_eq {l : LineState} (h : s.lineState = l) :
    firstRefusal [(s.lineState != l, .wrongLineState)] = none := by
  rw [h, bne_self_eq_false, firstRefusal_passes, firstRefusal]

/-- A LINE ENABLE in OFF brings the line to IDLE (R159). -/
theorem exec_lineEnable_off (h : s.Open) (hl : s.lineState = .off) :
    exec .lineEnable s = .next { s with lineState := .idle, result := 0, resultArg := 0 } := by
  rw [exec_lineEnable, firstRefusal_lineState_eq hl, command_taken _ _ h.1 h.2]
  rfl

/-- A LINE RECOVER in FAULT begins the recovery check (R168). -/
theorem exec_lineRecover_fault (h : s.Open) (hl : s.lineState = .fault) :
    exec .lineRecover s = .next { s with lineState := .recovering, result := 0, resultArg := 0 } := by
  rw [exec_lineRecover, firstRefusal_lineState_eq hl, command_taken _ _ h.1 h.2]
  rfl

theorem refuses_lineEnable (h : s.Open) (hl : s.lineState ≠ .off) : Refuses .lineEnable s 0x05 :=
  refuses_of_command h (firstRefusal_lineState_ne hl ▸ exec_lineEnable s)

theorem refuses_lineRecover (h : s.Open) (hl : s.lineState ≠ .fault) : Refuses .lineRecover s 0x05 :=
  refuses_of_command h (firstRefusal_lineState_ne hl ▸ exec_lineRecover s)

/-! ## The ends of the recovery check -/

/-- The check that succeeds (R168). -/
theorem exec_recoverySuccess (h : s.Running) (hl : s.lineState = .recovering) :
    exec .recoverySuccess s = .next (State.setCause .recovered { s with lineState := .idle }) := by
  simp only [exec, execRecoverySuccess, unlessReset_released h, if_pos hl]

/-- The check whose slots pass without 32 recessive samples (R168). -/
theorem exec_recoveryTimeout (h : s.Running) (hl : s.lineState = .recovering) :
    exec .recoveryTimeout s = .next (s.recoveryFails .stuck) := by
  simp only [exec, execRecoveryTimeout, unlessReset_released h, if_pos hl]

/-- The check that finds a clock fault (R165, R168). -/
theorem exec_clockFault_recovering (h : s.Running) (hl : s.lineState = .recovering) :
    exec .clockFault s = .next (s.recoveryFails .clock) := by
  simp only [exec, execClockFault, unlessReset_released h, if_pos hl]

end

/-- Settles O5: the line state decides each of the two commands, and each end of the recovery check sets its cause. -/
theorem enableAndRecover : Obligations.EnableAndRecover :=
  ⟨fun _ h => ⟨exec_lineEnable_off h, refuses_lineEnable h, exec_lineRecover_fault h, refuses_lineRecover h⟩,
    fun _ h hl => ⟨exec_recoverySuccess h hl, exec_recoveryTimeout h hl, exec_clockFault_recovering h hl⟩⟩

end Sys2Proof.Machine
end

section
/-! PROOF. A step (O1), and the register window: captures (O45), reads and writes of TABDATA (O47, O48), and the writes of
the other registers with IRQ# (O49). -/

namespace Sys2Proof.Machine

/-- Settles O1: a queue that is not empty gives its front command. -/
theorem stepTakesFrontCommand : Obligations.StepTakesFrontCommand := by
  intro s c rest h
  simp only [step, h]

section

variable {s : State} {v select index : Byte}

/-! ## Captures -/

/-- The capture of the row that a TABSEL and a TABIDX value name (R180). -/
def State.captureAt (s : State) (select index : Byte) : State := { s with tabsel := select, tabidx := index }.capture

/-- A write of TABSEL captures by the new TABSEL and by the TABIDX that stands. -/
theorem exec_tabselWrite (h : s.Running) : exec (.tabselWrite select) s = .next (s.captureAt select s.tabidx) :=
  congrArg Host.Outcome.next (unlessReset_released h)

/-- A write of TABIDX captures by the TABSEL that stands and by the new TABIDX. -/
theorem exec_tabidxWrite (h : s.Running) : exec (.tabidxWrite index) s = .next (s.captureAt s.tabsel index) :=
  congrArg Host.Outcome.next (unlessReset_released h)

theorem captureAt_latchEnd (s : State) (select index : Byte) :
    (s.captureAt select index).latchEnd = (tableOf select).rowLength := rfl

/-- The latch holds the row, and 0x00 beyond it. -/
theorem captureAt_latch (s : State) (select index : Byte) (k : Fin 32) :
    (s.captureAt select index).latch[k.val] = (s.tableRow (tableOf select) index).getD k.val 0 :=
  getElem_tabulate 32 _ k.val k.isLt

/-- No row is longer than the latch (R181). -/
theorem Table.rowLength_le (t : Table) : t.rowLength ≤ 32 := by cases t <;> decide

/-- From the row's end on the latch is 0x00. -/
theorem captureAt_beyond (s : State) (select index : Byte) (k : Fin 32)
    (h : (s.captureAt select index).latchEnd ≤ k.val) : (s.captureAt select index).latch[k.val] = 0 := by
  rw [captureAt_latch]
  exact List.getD_eq_default _ _ ((length_tableRow s _ index).trans_le h)

/-- Up to its end the latch is the row. -/
theorem captureAt_take (s : State) (select index : Byte) :
    (s.captureAt select index).latch.toList.take (tableOf select).rowLength = s.tableRow (tableOf select) index := by
  have hlength := length_tableRow s (tableOf select) index
  have hle := (tableOf select).rowLength_le
  refine List.ext_getElem (by simp [hlength, hle]) fun k _ hk => ?_
  have hlatch := captureAt_latch s select index ⟨k, by omega⟩
  rw [List.getElem_take, Vector.getElem_toList, hlatch, List.getD_eq_getElem _ _ hk]

/-- Where the table has no row, the whole latch is 0x00. -/
theorem captureAt_blank {n : Nat} (h : s.tableRow (tableOf select) index = List.replicate n 0) (k : Fin 32) :
    (s.captureAt select index).latch[k.val] = 0 := by
  rw [captureAt_latch, h, List.getD_eq_getElem?_getD, List.getElem?_getD_replicate_default_eq]

/-! ## The rows of the tables -/

theorem tableOf_unlisted : ∀ select : Byte, select = 0 ∨ 7 < select → tableOf select = .none := by decide

theorem tableRow_roster (a : Addr) (h : index = BitVec.ofNat 8 a.number) : s.tableRow .roster index = (s.entry a).row := by
  have ha : a.number < 256 := by
    have := a.isLt
    unfold Addr.number
    omega
  simp only [State.tableRow, h, toNat_ofNat_byte ha, ofNumber?_number]

theorem tableRow_roster_outside (h : index = 0 ∨ 24 < index) : s.tableRow .roster index = .replicate 32 0 := by
  have hnone : Addr.ofNumber? index.toNat = none := by
    refine dif_neg fun hn => ?_
    bv_omega
  simp only [State.tableRow, hnone, Table.rowLength]

theorem tableRow_binding (i : Fin 8) (h : index = BitVec.ofNat 8 i.val) :
    s.tableRow .binding index = bindingRow s.bindings[i.val] := by
  have hi : index.toNat = i.val := h ▸ toNat_ofNat_byte (by omega)
  simp only [State.tableRow, hi, i.isLt, dif_pos]

theorem tableRow_binding_outside (h : 7 < index) : s.tableRow .binding index = .replicate 7 0 := by
  have hi : ¬index.toNat < 8 := by bv_omega
  simp only [State.tableRow, hi, dif_neg, not_false_iff, Table.rowLength]

/-- The offers and STAGING have one row, at index 0 (R181). -/
theorem tableRow_single_outside {t : Table} (ht : t = .offerShadow ∨ t = .offerActive ∨ t = .staging) (h : index ≠ 0) :
    s.tableRow t index = .replicate t.rowLength 0 := by
  rcases ht with rfl | rfl | rfl <;> exact if_neg h

theorem tableRow_ring_head {head : Record} {rest : List Record} (h : s.ring = head :: rest) :
    s.tableRow .ring index = head.row := by simp only [State.tableRow, h]

theorem tableRow_ring_empty (h : s.ring = []) : s.tableRow .ring index = .replicate 24 0 := by
  simp only [State.tableRow, h, Table.rowLength]

theorem tableRow_queue {q : Request} (hi : index < 16) (h : s.queue[index.toNat]? = some q) :
    s.tableRow .queue index = q.row := by
  have hlow : index.toNat < 16 := hi
  simp only [State.tableRow, h, hlow, if_pos]

theorem tableRow_queue_outside (h : 15 < index ∨ s.queue.length ≤ index.toNat) :
    s.tableRow .queue index = .replicate 8 0 := by
  rcases h with h | h
  · have hhigh : ¬index.toNat < 16 := by bv_omega
    simp only [State.tableRow, if_neg hhigh]
    split <;> rfl
  · simp only [State.tableRow, List.getElem?_eq_none h, Table.rowLength]

/-! ## TABDATA -/

/-- Below the end a read returns the latch byte at the pointer (R182). -/
theorem latchByte_below (hlatch : s.latchPointer < 32) (h : s.latchPointer < s.latchEnd) :
    s.latchByte = s.latch[s.latchPointer] := by
  rw [State.latchByte, if_pos h, List.getD_eq_getElem _ _ (by simpa using hlatch), Vector.getElem_toList]

theorem latchByte_end (h : s.latchEnd ≤ s.latchPointer) : s.latchByte = 0 := if_neg (by omega)

theorem advancePointer_below (h : s.latchPointer < s.latchEnd) :
    s.advancePointer = { s with latchPointer := s.latchPointer + 1 } := if_pos h

theorem advancePointer_end (h : s.latchEnd ≤ s.latchPointer) : s.advancePointer = s := if_neg (by omega)

theorem exec_tabdataRead (h : s.Running) :
    exec .tabdataRead s = .next { s.advancePointer with readData := s.latchByte } := by
  simp [exec, execTabdataRead, h]

theorem exec_tabdataWrite (h : s.Running) : exec (.tabdataWrite v) s = .next (s.writeTableByte v) :=
  congrArg Host.Outcome.next (unlessReset_released h)

theorem writeTableByte_end (h : s.latchEnd ≤ s.latchPointer) : s.writeTableByte v = s := if_neg (by omega)

theorem writeTableByte_below (h : s.latchPointer < s.latchEnd) : s.writeTableByte v = (s.storeByte v).advancePointer :=
  if_pos h

theorem tableOf_eq_staging : ∀ select : Byte, tableOf select = .staging ↔ select = 5 := by decide

theorem tableOf_eq_offerShadow : ∀ select : Byte, tableOf select = .offerShadow ↔ select = 3 := by decide

theorem writableTable_staging (ht : s.tabsel = 5) (hi : s.tabidx = 0) : s.writableTable = some .staging := by
  simp [State.writableTable, hi, (tableOf_eq_staging _).mpr ht]

theorem writableTable_offerShadow (ht : s.tabsel = 3) (hi : s.tabidx = 0) (hc : s.commitPending = false) :
    s.writableTable = some .offerShadow := by
  simp [State.writableTable, hi, (tableOf_eq_offerShadow _).mpr ht, hc]

/-- Another index than 0, the offer under a pending commit, and every other table take no write (R183). -/
theorem writableTable_none
    (h : s.tabidx ≠ 0 ∨ (s.tabsel = 3 ∧ s.commitPending = true) ∨ (s.tabsel ≠ 3 ∧ s.tabsel ≠ 5)) :
    s.writableTable = none := by
  unfold State.writableTable
  split
  · rfl
  next hi =>
    rcases h with h | ⟨ht, hc⟩ | ⟨hshadow, hstaging⟩
    · exact absurd h hi
    · simp [(tableOf_eq_offerShadow _).mpr ht, hc]
    · split
      next ht => exact absurd ((tableOf_eq_staging _).mp ht) hstaging
      next ht => exact absurd ((tableOf_eq_offerShadow _).mp ht) hshadow
      all_goals rfl

/-- A write at a place that the vector has. -/
theorem setIfInBounds_eq_set {α : Type} {n k : Nat} (bytes : Vector α n) (a : α) (h : k < n) :
    bytes.setIfInBounds k a = bytes.set k a := by
  ext j hj
  rw [Vector.getElem_setIfInBounds, Vector.getElem_set]

theorem storeByte_staging (h : s.writableTable = some .staging) (hrow : s.latchPointer < 21) :
    s.storeByte v = { s with staging := s.staging.set s.latchPointer v, latch := s.latch.set s.latchPointer v } := by
  simp only [State.storeByte, h]
  rw [setIfInBounds_eq_set s.staging v hrow, setIfInBounds_eq_set s.latch v (by omega)]

theorem storeByte_offerShadow (h : s.writableTable = some .offerShadow) (hrow : s.latchPointer < 25) :
    s.storeByte v = { s with shadow := s.shadow.set s.latchPointer v, latch := s.latch.set s.latchPointer v } := by
  simp only [State.storeByte, h]
  rw [setIfInBounds_eq_set s.shadow v hrow, setIfInBounds_eq_set s.latch v (by omega)]

theorem storeByte_none (h : s.writableTable = none) : s.storeByte v = s := by simp only [State.storeByte, h]

/-- Below the end a write stores its byte, where the table takes one, and the pointer advances (R183). -/
theorem exec_tabdataWrite_below (h : s.Running) (hend : s.latchPointer < s.latchEnd) :
    exec (.tabdataWrite v) s = .next (s.storeByte v).advancePointer := by
  rw [exec_tabdataWrite h, writeTableByte_below hend]

/-! ## The other registers -/

theorem exec_causeWrite (h : s.Running) : exec (.causeWrite v) s = .next { s with cause := s.cause &&& ~~~v } :=
  congrArg Host.Outcome.next (unlessReset_released h)

theorem exec_enableWrite (h : s.Running) : exec (.enableWrite v) s = .next { s with enable := v } :=
  congrArg Host.Outcome.next (unlessReset_released h)

/-- A write of a register without a row of its own (R174, R184). -/
theorem exec_registerWrite {address : BitVec 5} {after : State} (h : s.Running)
    (hwrite : s.writeRegister (registerAt address) v = .next (s.unlessReset after)) :
    exec (.registerWrite address v) s = .next after :=
  hwrite.trans (congrArg Host.Outcome.next (unlessReset_released h))

/-- The addresses of ARG0 to ARG5 (R194). -/
theorem registerAt_arg : ∀ k : Fin 6, registerAt (BitVec.ofNat 5 (9 + k.val)) = .arg k := by decide

/-- The registers that a write leaves as they are (R174, R175). -/
def readOnlyRegisters : List Register :=
  [.part, .revision, .linestate, .activity, .result, .resultarg, .queuecount, .ringcount, .rostercount, .tick,
    .reservations, .waiting, .nextticket]

/-- Their addresses (R194). -/
theorem registerAt_readOnly : ∀ address ∈ ([0x00, 0x01, 0x02, 0x03, 0x07, 0x08, 0x12, 0x13, 0x14, 0x1C, 0x1D, 0x1E,
    0x1F] : List (BitVec 5)), registerAt address ∈ readOnlyRegisters := by decide

theorem writeRegister_readOnly {r : Register} (h : r ∈ readOnlyRegisters) :
    s.writeRegister r v = .next (s.unlessReset s) := by
  cases r with
  | part | revision | linestate | activity | result | resultarg | queuecount | ringcount | rostercount | tick
  | reservations | waiting | nextticket => rfl
  | _ => simp [readOnlyRegisters] at h

/-- No value stands below 0. -/
theorem clamp_zero (high v : Byte) : clamp 0 high v = if high < v then high else v := if_neg BitVec.not_lt_zero

/-- A byte is not 0 when one of its bits is set. -/
theorem byte_ne_zero_iff (b : Byte) : b ≠ 0 ↔ ∃ i : Fin 8, b.getLsbD i.val = true := by
  rw [Ne, BitVec.eq_of_getLsbD_eq_iff]
  simp only [BitVec.ofNat_eq_ofNat, BitVec.getLsbD_zero, not_forall, Bool.not_eq_false, Fin.exists_iff]

/-- IRQ# is asserted while a bit is set both in CAUSE and in ENABLE (R186). -/
theorem irqAsserted_iff (s : State) : s.irqAsserted = true ↔
    ∃ i : Fin 8, s.cause.getLsbD i.val = true ∧ s.enable.getLsbD i.val = true := by
  simp only [State.irqAsserted, bne_iff_ne, byte_ne_zero_iff, BitVec.getLsbD_and, Bool.and_eq_true]

end

/-- Settles O45: both writes are captures by the pair of values, which hold the row of the table they name. -/
theorem captureCopiesTheRow : Obligations.CaptureCopiesTheRow := by
  intro s c select index hr hwrite
  have hexec : exec c s = .next (s.captureAt select index) := by
    rcases hwrite with ⟨rfl, rfl⟩ | ⟨rfl, rfl⟩
    · exact exec_tabselWrite hr
    · exact exec_tabidxWrite hr
  have htake := captureAt_take s select index
  refine ⟨s.captureAt select index, hexec, rfl, captureAt_beyond s select index, fun h => ?none, ?roster, ?binding,
    ?shadow, ?active, ?staging, fun h hi => ?outside, ?ring, ?queue⟩
  case none => rw [captureAt_latchEnd, tableOf_unlisted select h]; rfl
  case roster =>
    rintro rfl
    refine ⟨rfl, fun a ha => ?_, fun hi => captureAt_blank (tableRow_roster_outside hi)⟩
    rw [← tableRow_roster a ha, ← List.take_of_length_le (i := 32) (Vector.length_toList.le)]
    exact htake
  case binding =>
    rintro rfl
    exact ⟨rfl, fun i hi => htake.trans (tableRow_binding i hi), fun hi => captureAt_blank (tableRow_binding_outside hi)⟩
  case shadow => rintro rfl; exact ⟨rfl, fun hi => htake.trans (if_pos hi)⟩
  case active => rintro rfl; exact ⟨rfl, fun hi => htake.trans (if_pos hi)⟩
  case staging => rintro rfl; exact ⟨rfl, fun hi => htake.trans (if_pos hi)⟩
  case outside =>
    refine captureAt_blank (tableRow_single_outside ?_ hi)
    rcases h with rfl | rfl | rfl <;> decide
  case ring =>
    rintro rfl
    exact ⟨rfl, fun _ _ h => htake.trans (tableRow_ring_head h), fun h => captureAt_blank (tableRow_ring_empty h)⟩
  case queue =>
    rintro rfl
    exact ⟨rfl, fun _ hi h => htake.trans (tableRow_queue hi h), fun h => captureAt_blank (tableRow_queue_outside h)⟩

/-- Settles O47: below the end and at it. -/
theorem tabdataReadAdvances : Obligations.TabdataReadAdvances := by
  refine fun s hr => ⟨fun hlatch h => ?_, fun h => ?_⟩
  · rw [exec_tabdataRead hr, advancePointer_below h, latchByte_below hlatch h]
  · rw [exec_tabdataRead hr, advancePointer_end h, latchByte_end h]

/-- Settles O48: at the end, and below it by the table that takes the byte. -/
theorem tabdataWriteByTable : Obligations.TabdataWriteByTable := by
  refine fun v s hr => ⟨fun h => ?_, fun h => ⟨fun hrow ht hi => ?_, fun hrow ht hi hc => ?_, fun hnone => ?_⟩⟩
  · rw [exec_tabdataWrite hr, writeTableByte_end h]
  · rw [exec_tabdataWrite_below hr h, storeByte_staging (writableTable_staging ht hi) hrow]
    exact congrArg Host.Outcome.next (advancePointer_below h)
  · rw [exec_tabdataWrite_below hr h, storeByte_offerShadow (writableTable_offerShadow ht hi hc) hrow]
    exact congrArg Host.Outcome.next (advancePointer_below h)
  · rw [exec_tabdataWrite_below hr h, storeByte_none (writableTable_none hnone), advancePointer_below h]

/-- Settles O49: a write by the kind of its register, and IRQ# bit by bit. -/
theorem registerWritesAndIrq : Obligations.RegisterWritesAndIrq := by
  refine ⟨fun v s hr => ⟨exec_causeWrite hr, exec_enableWrite hr, ?linerate, ?retrylim, ?waitlim, ?holdoff, fun k => ?arg,
    fun address haddress => ?readOnly⟩, irqAsserted_iff⟩
  case linerate => rw [← clamp_zero]; exact exec_registerWrite hr rfl
  case retrylim => rw [← clamp_zero]; exact exec_registerWrite hr rfl
  case waitlim => rw [← clamp_one]; exact exec_registerWrite hr rfl
  case holdoff => rw [← clamp_one_255]; exact exec_registerWrite hr rfl
  case arg => exact exec_registerWrite hr (by rw [registerAt_arg]; rfl)
  case readOnly => exact exec_registerWrite hr (writeRegister_readOnly (registerAt_readOnly address haddress))

end Sys2Proof.Machine
end

section
/-! PROOF. The bits of a page word, the bytes of an offer row, the terms of two BASE pages, and what the messages of a node
describe (O31). -/

namespace Sys2Proof.Machine

/-! ## The bits of a page word -/

/-- Two adjacent bits of a word as a number. -/
theorem twoBits_toNat {n : Nat} (w : BitVec n) (i : Nat) :
    w.toNat / 2 ^ i % 4 = 2 * (w.getLsbD (i + 1)).toNat + (w.getLsbD i).toNat := by
  simp only [BitVec.getLsbD, Nat.toNat_testBit, Nat.pow_succ, ← Nat.div_div_eq_div_mul]
  omega

/-- Bits 14-13 are the kind (R192). -/
theorem pageKind_eq (w : PageWord) :
    pageKind w = match w.toNat / 8192 % 4 with | 0 => .base | 1 => .message | 2 => .plain | _ => .invalid := by
  rw [show w.toNat / 8192 % 4 = _ from twoBits_toNat w 13, pageKind]
  cases w.getLsbD 14 <;> cases w.getLsbD 13 <;> rfl

/-- Bits 11-10 are the length class (R192). -/
theorem pageLengthClass_eq (w : PageWord) : pageLengthClass w =
    match w.toNat / 1024 % 4 with | 0 => .bytes4 | 1 => .bytes8 | 2 => .bytes12 | _ => .bytes16 := by
  rw [show w.toNat / 1024 % 4 = _ from twoBits_toNat w 10, pageLengthClass]
  cases w.getLsbD 11 <;> cases w.getLsbD 10 <;> rfl

/-- Adjacent bits of a word as a number. -/
theorem extractLsb'_toNat_div {n : Nat} (w : BitVec n) (start len : Nat) :
    (w.extractLsb' start len).toNat = w.toNat / 2 ^ start % 2 ^ len := by
  rw [BitVec.extractLsb'_toNat, Nat.shiftRight_eq_div_pow]

theorem pageCode_eq (w : PageWord) : pageCode w = w.toNat / 64 % 64 := extractLsb'_toNat_div w 6 6

theorem pagePlains_eq (w : PageWord) : pagePlains w = w.toNat / 8 % 8 := extractLsb'_toNat_div w 3 3

theorem pageValue_toNat (w : PageWord) : (pageValue w).toNat = w.toNat % 4096 := by
  simp [pageValue]

/-- The value of a PLAIN page (R192). -/
theorem pageValue_eq (w : PageWord) : pageValue w = BitVec.ofNat 12 (w.toNat % 4096) := by
  rw [← pageValue_toNat, BitVec.ofNat_toNat, BitVec.setWidth_eq]

/-- The value of a PLAIN page, clamped to 255 (R74). -/
theorem clampObject_pageValue (w : PageWord) :
    clampObject (pageValue w) = BitVec.ofNat 8 (min 255 (w.toNat % 4096)) := by
  rw [clampObject, pageValue_toNat, Nat.min_comm]

/-! ## The row of an offer -/

/-- The count is the row's first byte (R193). -/
theorem offer_count_eq (o : Offer) : o.count = (o.toList.getD 0 0).toNat := by
  simp [Offer.count, List.getD_eq_getElem?_getD]

/-- The flag of a slot binds below the count, but not for a NULL page (R75, R76; log 22). -/
theorem offer_binding_iff (o : Offer) (k : Nat) : o.binding k = true ↔
    k < o.count ∧ (o.toList.getD (3 + 3 * k) 0).getLsbD 0 = true ∧
      ¬(pageKind (o.word k) = .message ∧ pageCode (o.word k) = 0) := by
  rw [← pageIsNull_iff, Bool.not_eq_true, Offer.binding, Bool.and_eq_true, Bool.and_eq_true, decide_eq_true_eq,
    Bool.not_eq_true', and_assoc, and_comm (a := pageIsNull (o.word k) = false)]

/-! ## The terms of two BASE pages -/

theorem smaller_bytes (a b : LengthClass) : (a.smaller b).bytes = min a.bytes b.bytes := by
  rw [LengthClass.smaller, apply_ite LengthClass.bytes, Nat.min_def]

/-- The list that the resolution goes through misses no poll class. -/
theorem mem_pollClasses (c : PollClass) : c ∈ [PollClass.ticks1, .ticks2, .ticks4, .ticks8] := by
  cases c <;> decide

/-- It goes from the fewest ticks to the most. -/
theorem pollClasses_sorted :
    [PollClass.ticks1, .ticks2, .ticks4, .ticks8].Pairwise fun b c => b.ticks ≤ c.ticks := by decide

section
variable {node own : PageWord}

theorem fastestCommon_eq_none :
    fastestCommon node own = none ↔ ∀ c, ¬(pageOffersPoll node c = true ∧ pageOffersPoll own c = true) := by
  simp only [fastestCommon, List.find?_eq_none, mem_pollClasses, true_implies, Bool.and_eq_true]

variable {c : PollClass} (h : fastestCommon node own = some c)
include h

/-- The class is in both sets. -/
theorem fastestCommon_common : pageOffersPoll node c = true ∧ pageOffersPoll own c = true := by
  simpa only [Bool.and_eq_true] using List.find?_some h

/-- No class in both sets has fewer ticks (R87): all that stand before it in the list are not common. -/
theorem fastestCommon_fastest (b : PollClass) (hnode : pageOffersPoll node b = true) (hown : pageOffersPoll own b = true) :
    c.ticks ≤ b.ticks := by
  obtain ⟨-, before, behind, hlist, hbefore⟩ := List.find?_eq_some_iff_append.mp h
  have hmem := mem_pollClasses b
  have hsorted := pollClasses_sorted
  rw [hlist, List.mem_append, List.mem_cons] at hmem
  rw [hlist] at hsorted
  obtain hb | rfl | hb := hmem
  · have := hbefore b hb
    simp [hnode, hown] at this
  · exact Nat.le_refl _
  · exact List.rel_of_pairwise_cons (List.pairwise_append.mp hsorted).2.1 hb

end

theorem resolveTerms_eq_none (node own : PageWord) :
    resolveTerms node own = none ↔ ∀ c, ¬(pageOffersPoll node c = true ∧ pageOffersPoll own c = true) :=
  Option.map_eq_none_iff.trans fastestCommon_eq_none

/-! ## The messages of a node -/

/-- The page at k is a MESSAGE of this code that announces, and has behind it, the PLAIN pages that the code needs (R74). -/
def GivesAt (pages : List PageWord) (code need k : Nat) : Prop :=
  ∃ m, pages[k]? = some m ∧ pageKind m = .message ∧ pageCode m = code ∧
    need ≤ pagePlains m ∧ ∀ j, 1 ≤ j → j ≤ need → pageKind (pages.getD (k + j) 0) = .plain

/-- A value of the description is that which a message of one code reads off the first `need` of its plains; without them,
and from a message of another code, it stays as it was (R74; log 11). -/
def ReadFrom {α : Type} (value : Described → Option α) (code need : Nat) (read : List PageWord → α) : Prop :=
  ∀ d c plains, (c = code ∧ need ≤ plains.length → value (describe d c plains) = some (read (plains.take need))) ∧
    (¬(c = code ∧ need ≤ plains.length) → value (describe d c plains) = value d)

/-- The description after one page in front of the rest of the list. -/
def describedBy (d : Described) (p : PageWord) (rest : List PageWord) : Described :=
  if pageKind p = .message then describe d (pageCode p) (rest.take (min (pagePlains p) (leadingPlains rest))) else d

theorem interpretPages_cons (d : Described) (p : PageWord) (rest : List PageWord) :
    interpretPages d (p :: rest) = interpretPages (describedBy d p rest) rest := by
  rw [interpretPages, describedBy]
  split <;> rfl

theorem leadingPlains_le_length (pages : List PageWord) : leadingPlains pages ≤ pages.length := by
  induction pages with
  | nil => exact Nat.le_refl _
  | cons p rest ih =>
    rw [leadingPlains, List.length_cons]
    split <;> omega

/-- The pages at the front are PLAIN up to a place. -/
theorem le_leadingPlains_iff (pages : List PageWord) (n : Nat) :
    n ≤ leadingPlains pages ↔ ∀ j < n, pageKind (pages.getD j 0) = .plain := by
  induction pages generalizing n with
  | nil =>
    have hzero : pageKind 0 ≠ .plain := by decide
    simp only [leadingPlains, List.getD_nil, hzero, imp_false, Nat.not_lt, Nat.le_zero]
    exact ⟨fun h => h ▸ Nat.zero_le, fun h => Nat.le_zero.mp (h 0)⟩
  | cons p rest ih =>
    cases n with
    | zero => simp
    | succ n =>
      rw [leadingPlains, Nat.forall_lt_succ_left]
      simp only [List.getD_cons_zero, List.getD_cons_succ, ← ih]
      split
      next hp => simp [hp]
      next hp => simp [hp]

section
variable {p : PageWord} {rest pages : List PageWord} {code need k : Nat}

theorem not_givesAt_nil : ¬GivesAt [] code need k := by simp [GivesAt]

theorem givesAt_succ : GivesAt (p :: rest) code need (k + 1) ↔ GivesAt rest code need k := by
  simp only [GivesAt, List.getElem?_cons_succ, Nat.add_right_comm k 1, List.getD_cons_succ]

/-- The first page of a list gives by the pages right behind it. -/
theorem givesAt_zero : GivesAt (p :: rest) code need 0 ↔
    pageKind p = .message ∧ pageCode p = code ∧ need ≤ pagePlains p ∧ need ≤ leadingPlains rest := by
  have hplains : (∀ j, 1 ≤ j → j ≤ need → pageKind ((p :: rest).getD (0 + j) 0) = .plain) ↔ need ≤ leadingPlains rest := by
    rw [le_leadingPlains_iff]
    constructor
    · intro h j hj
      simpa using h (j + 1) (by omega) (by omega)
    · intro h j hj hle
      obtain ⟨i, rfl⟩ := Nat.exists_eq_add_of_le' hj
      simpa using h i (by omega)
  simp only [GivesAt, hplains, List.getElem?_cons_zero, Option.some.injEq, exists_eq_left']

variable {α : Type} {value : Described → Option α} {read : List PageWord → α} {d : Described}

/-- A message has as many plains as it announces and as follow it. -/
theorem length_messagePlains (n : Nat) (rest : List PageWord) :
    (rest.take (min n (leadingPlains rest))).length = min n (leadingPlains rest) := by
  have := leadingPlains_le_length rest
  rw [List.length_take]
  omega

theorem describedBy_gives (hread : ReadFrom value code need read) (h : GivesAt (p :: rest) code need 0) :
    value (describedBy d p rest) = some (read (rest.take need)) := by
  obtain ⟨hkind, hcode, hannounced, hfollow⟩ := givesAt_zero.mp h
  have hlength : need ≤ (rest.take (min (pagePlains p) (leadingPlains rest))).length := by
    rw [length_messagePlains]
    exact Nat.le_min.mpr ⟨hannounced, hfollow⟩
  rw [describedBy, if_pos hkind, (hread _ _ _).1 ⟨hcode, hlength⟩, List.take_take,
    Nat.min_eq_left (Nat.le_min.mpr ⟨hannounced, hfollow⟩)]

theorem describedBy_keeps (hread : ReadFrom value code need read) (h : ¬GivesAt (p :: rest) code need 0) :
    value (describedBy d p rest) = value d := by
  rw [describedBy]
  split
  next hkind =>
    refine (hread _ _ _).2 fun ⟨hcode, hlength⟩ => h (givesAt_zero.mpr ⟨hkind, hcode, ?_⟩)
    rwa [length_messagePlains, Nat.le_min] at hlength
  next => rfl

/-- Where no message gives a value it stays as it was. -/
theorem interpretPages_keeps (hread : ReadFrom value code need read) (h : ∀ k, ¬GivesAt pages code need k) :
    value (interpretPages d pages) = value d := by
  induction pages generalizing d with
  | nil => rfl
  | cons p rest ih =>
    rw [interpretPages_cons, ih fun k hk => h (k + 1) (givesAt_succ.mpr hk), describedBy_keeps hread (h 0)]

/-- The last message that gives a value decides it (R74). -/
theorem interpretPages_last (hread : ReadFrom value code need read) (h : GivesAt pages code need k)
    (hlast : ∀ j, k < j → ¬GivesAt pages code need j) :
    value (interpretPages d pages) = some (read ((pages.drop (k + 1)).take need)) := by
  induction pages generalizing d k with
  | nil => exact absurd h not_givesAt_nil
  | cons p rest ih =>
    rw [interpretPages_cons, List.drop_succ_cons]
    cases k with
    | zero =>
      have hlater (j : Nat) : ¬GivesAt rest code need j := fun hj => hlast (j + 1) (by omega) (givesAt_succ.mpr hj)
      rw [interpretPages_keeps hread hlater, describedBy_gives hread h, List.drop_zero]
    | succ k => exact ih (givesAt_succ.mp h) fun j hj hgives => hlast (j + 1) (by omega) (givesAt_succ.mpr hgives)

end

/-- PROFILE, code 1, gives the device class from one plain (R74). -/
theorem deviceClass_readFrom :
    ReadFrom Described.deviceClass 1 1 fun plains => pageValue (plains.getD 0 0) := by
  intro d c plains
  by_cases hc : c = 1
  · cases plains <;> simp [describe, hc]
  · refine ⟨fun h => absurd h.1 hc, fun _ => ?_⟩
    simp only [describe, if_neg hc]
    split
    · split <;> rfl
    · rfl

/-- OBJECTS, code 2, gives the object range from two plains (R74). -/
theorem objects_readFrom : ReadFrom Described.objects 2 2 fun plains =>
    { lowest := clampObject (pageValue (plains.getD 0 0)), highest := clampObject (pageValue (plains.getD 1 0)) } := by
  intro d c plains
  by_cases hc : c = 2
  · match plains with
    | [] | [_] | _ :: _ :: _ => simp [describe, hc]
  · refine ⟨fun h => absurd h.1 hc, fun _ => ?_⟩
    simp only [describe, if_neg hc]
    split
    · split <;> rfl
    · rfl

/-- A place among the pages taken from behind a message. -/
theorem getD_take_drop {pages : List PageWord} {need j : Nat} (k : Nat) (h : j < need) :
    ((pages.drop k).take need).getD j 0 = pages.getD (k + j) 0 := by
  simp [List.getD_eq_getElem?_getD, List.getElem?_take_of_lt h]

/-- Settles O31: the words and rows bit by bit, the terms from the fastest common class, and the description from the last
message of each code that has its plains. -/
theorem pageWordsAndResolvedTerms : Obligations.PageWordsAndResolvedTerms := by
  refine ⟨fun w => ⟨rfl, rfl, pageKind_eq w, pageLengthClass_eq w, rfl, rfl, rfl, rfl, rfl, rfl, pageCode_eq w,
      pagePlains_eq w⟩,
    fun offer => ⟨offer_count_eq offer, fun k => ⟨rfl, offer_binding_iff offer k.val⟩⟩,
    fun node own => ⟨resolveTerms_eq_none node own, fun t ht => ?terms⟩,
    fun pages => ⟨fun k h hlast => ?device, interpretPages_keeps deviceClass_readFrom, fun k h hlast => ?objects,
      interpretPages_keeps objects_readFrom⟩⟩
  case terms =>
    obtain ⟨c, hc, rfl⟩ := Option.map_eq_some_iff.mp ht
    obtain ⟨hnode, hown⟩ := fastestCommon_common hc
    exact ⟨smaller_bytes _ _, hnode, hown, fastestCommon_fastest hc, rfl, rfl⟩
  case device =>
    rw [interpretPages_last deviceClass_readFrom h hlast, getD_take_drop _ (by decide), pageValue_eq]
  case objects =>
    rw [interpretPages_last objects_readFrom h hlast, getD_take_drop _ (by decide), getD_take_drop _ (by decide),
      clampObject_pageValue, clampObject_pageValue]

end Sys2Proof.Machine
end
